-- ==== Sys2Proof/Word.lean ====
section
/-! DEFINITION. The words the core moves (00_scope.md R11, 10_state.md R20). All are fixed widths. -/

namespace Sys2Proof

/-- One byte of the MIDI stream (u8, 30_encoding.md R92). -/
abbrev Byte := BitVec 8

/-- An unsigned 16-bit register or operand (u16). -/
abbrev U16 := BitVec 16

/-- One sample (s16, two's complement): an element of `buf` and of `blk` (00_scope.md R11). -/
abbrev Sample := BitVec 16

/-- One event word (30_encoding.md R98): status, key or controller number, value. -/
abbrev EventWord := BitVec 24

/-- One host command word (30_encoding.md R99): `op` then `arg`. -/
abbrev CommandWord := BitVec 24

/-- One response word (30_encoding.md R104): `err` then `data`. -/
abbrev ResponseWord := BitVec 17

end Sys2Proof
end

