-- ==== Sys2Proof/Config.lean ====
section
/-! DEFINITION. The parameter record of 00_scope.md R8, fixed before reset (R7), and the model's one free value. -/

namespace Sys2Proof

/-- The parameters of 00_scope.md R8 with their defaults. Sample width 16, 15 gain fraction bits and counter width 16
are fixed, not parameters. `sampleRate` and `serialBaudrate` are informative: no rule reads them (log 16). -/
structure Params where
  /-- `SAMPLE_BUFFER_SIZE`: samples in a block. -/
  B : Nat := 48
  /-- `MAX_DELAY_Q`: elements of the delay buffer. -/
  Q : Nat := 12000
  /-- `MIDIQ_CAP`: elements of the event queue (OPEN, D12). -/
  midiqCap : Nat := 16
  /-- `NBUF`: block buffers in the ring. -/
  nbuf : Nat := 2
  /-- `GAIN_MAX`: largest gain, times 2^15. -/
  gainMax : Nat := 32112
  /-- `DOFS_RESET`: delay offset after reset (OPEN, D17), by default `Q - 1` for whatever `Q` the record has. -/
  dofsReset : Nat := Q - 1
  /-- `GAIN_RESET`: gain after reset. -/
  gainReset : Nat := 0
  /-- `SAMPLE_RATE` in Hz (R9). -/
  sampleRate : Nat := 48000
  /-- `SERIAL_BAUDRATE` (R288). -/
  serialBaudrate : Nat := 115200
  deriving DecidableEq, Repr

/-- The constraints of 00_scope.md R8 and 70_reset_and_hazards.md R273. -/
def Params.ok (p : Params) : Bool :=
  decide (1 ≤ p.B) && decide (p.B ≤ p.Q) && decide (2 ≤ p.Q) && decide (p.Q ≤ 65534)
    && decide (1 ≤ p.midiqCap) && decide (1 ≤ p.nbuf) && decide (p.gainMax < 32768)
    && decide (1 ≤ p.dofsReset) && decide (p.dofsReset ≤ p.Q - 1) && decide (p.gainReset ≤ p.gainMax)
    && decide (0 < p.sampleRate)

/-- A parameter record that meets its constraints. A record that breaks one cannot be built: the treatment `refuse` of
93_implementation_defined.md U10 (log 1). -/
structure Config extends Params where
  ok : toParams.ok = true
  deriving DecidableEq, Repr

/-- The configuration `MLSE-CORE/48-12000-16` (R1, R8): every parameter at its default (log 2). -/
def Config.default : Config := { ok := by decide }

/-- FREE VALUE (log 10). What `RDSTAT 9` answers for a queue count that 16 bits cannot hold, which the spec does not
state: nothing constrains it. -/
opaque Config.wideQueueCount : Nat → BitVec 16

end Sys2Proof
end

