-- ==== Sys2Proof/Syntax.lean ====
section
/-! DEFINITION. The operations (30_encoding.md R90, one constructor per row of the opcode table), the words the input ports
carry (R91), and the names under which a word that encodes no operation is rejected. -/

namespace Sys2Proof

/-- One operation of the core, with its operands. `BYTE b` is split by the byte class of `b` (R94), a command word by its
opcode range (R100 to R103). -/
inductive Instr where
  | mdData (val7 : BitVec 7)
  | mdNoteOff (chan : BitVec 4)
  | mdNoteOn (chan : BitVec 4)
  | mdPolyAt (chan : BitVec 4)
  | mdCc (chan : BitVec 4)
  | mdProg (chan : BitVec 4)
  | mdChanAt (chan : BitVec 4)
  | mdPBend (chan : BitVec 4)
  | mdSys (low : BitVec 4)
  | setOfs (n : U16)
  | setGain (g : U16)
  | rdStat (r : U16)
  | cmdReserved00 (arg : U16)
  | cmdReserved04 (op : BitVec 2) (arg : U16)
  | cmdReserved08 (op : BitVec 3) (arg : U16)
  | cmdReserved10 (op : BitVec 4) (arg : U16)
  | cmdReserved20 (op : BitVec 5) (arg : U16)
  | cmdReserved40 (op : BitVec 6) (arg : U16)
  | cmdReserved80 (op : BitVec 7) (arg : U16)
  | tick
  | render (r : List Sample)
  | release (k : Nat)
  | reset
  | delay
  | emit
  deriving DecidableEq, Repr

/-- What one input port presents in one step (30_encoding.md R91). A strobe is a single wire, 1 in the step in which its
event happens, with the payload beside it (R105). `step` is format STEP: the 2-bit value of `sch.st` that enables an
internal step of the scheduler. The index of RELEASE_IN has no width in the spec: a natural number (log 11). -/
inductive PortWord where
  | midiIn (b : Byte)
  | cmdIn (c : CommandWord)
  | tickIn (strobe : BitVec 1)
  | renderIn (strobe : BitVec 1) (r : List Sample)
  | releaseIn (strobe : BitVec 1) (k : Nat)
  | resetIn (strobe : BitVec 1)
  | step (code : BitVec 2)
  deriving DecidableEq, Repr

/-- Why a port word encodes no operation (log 9). -/
inductive Reject where
  /-- The strobe wire is 0: no event happens on that port (R105). -/
  | strobeNotAsserted
  /-- STEP code 00 or 01: in Idle and Rendering the scheduler has no internal step (R105, R212). -/
  | noSuchStep
  /-- A render payload that is not exactly `B` samples (R203: "The block always has exactly `B` samples"). -/
  | blockLength
  deriving DecidableEq, Repr

end Sys2Proof
end

