-- ==== Sys2Proof/WellFormed.lean ====
section
/-! DEFINITION. Which terms of `Instr` are operations of a core with a given parameter record. Every operand's width is in
its type but for RENDER's block. -/

namespace Sys2Proof

/-- RENDER carries exactly `B` samples (44_blockscheduler.md R203, R204). Every other term is an operation: RELEASE takes any
index (R209), RDSTAT any register number (45_hostport.md R232). -/
def Instr.wellFormed (c : Config) : Instr → Bool
  | .mdData _ => true
  | .mdNoteOff _ => true
  | .mdNoteOn _ => true
  | .mdPolyAt _ => true
  | .mdCc _ => true
  | .mdProg _ => true
  | .mdChanAt _ => true
  | .mdPBend _ => true
  | .mdSys _ => true
  | .setOfs _ => true
  | .setGain _ => true
  | .rdStat _ => true
  | .cmdReserved00 _ => true
  | .cmdReserved04 _ _ => true
  | .cmdReserved08 _ _ => true
  | .cmdReserved10 _ _ => true
  | .cmdReserved20 _ _ => true
  | .cmdReserved40 _ _ => true
  | .cmdReserved80 _ _ => true
  | .tick => true
  | .render r => decide (r.length = c.B)
  | .release _ => true
  | .reset => true
  | .delay => true
  | .emit => true

end Sys2Proof
end

