-- ==== Sys2Proof/Decode.lean ====
section
/-! DEFINITION. The decoder from port words to operations, the encoder, and the opcode table's rows as data.
Encodings: 30_encoding.md R92 to R105. -/

namespace Sys2Proof

/-! ## Fields -/

/-- `chan = b[3:0]`, a status byte's channel (R93). -/
def chanField (b : Byte) : BitVec 4 := b.extractLsb' 0 4

/-- `val7 = b[6:0]`, a data byte's value (R95). -/
def val7Field (b : Byte) : BitVec 7 := b.extractLsb' 0 7

/-- `op = c[23:16]` (R99). -/
def opField (c : CommandWord) : BitVec 8 := c.extractLsb' 16 8

/-- `arg = c[15:0]` (R99). -/
def argField (c : CommandWord) : U16 := c.extractLsb' 0 16

/-! ## Decoding -/

/-- The nine byte classes of R94, each by its match under its mask. What no earlier row takes is MD.SYS. -/
def decodeMidi (b : Byte) : Instr :=
  if b &&& 0x80 = 0x00 then .mdData (val7Field b)
  else if b &&& 0xF0 = 0x80 then .mdNoteOff (chanField b)
  else if b &&& 0xF0 = 0x90 then .mdNoteOn (chanField b)
  else if b &&& 0xF0 = 0xA0 then .mdPolyAt (chanField b)
  else if b &&& 0xF0 = 0xB0 then .mdCc (chanField b)
  else if b &&& 0xF0 = 0xC0 then .mdProg (chanField b)
  else if b &&& 0xF0 = 0xD0 then .mdChanAt (chanField b)
  else if b &&& 0xF0 = 0xE0 then .mdPBend (chanField b)
  else .mdSys (chanField b)

/-- The three commands (R100 to R102) and the seven reserved ranges of R103, by `op` under its mask. What no earlier row
takes is `0x80` to `0xFF`. -/
def decodeOp (op : BitVec 8) (arg : U16) : Instr :=
  if op = 0x01 then .setOfs arg
  else if op = 0x02 then .setGain arg
  else if op = 0x03 then .rdStat arg
  else if op = 0x00 then .cmdReserved00 arg
  else if op &&& 0xFC = 0x04 then .cmdReserved04 (op.extractLsb' 0 2) arg
  else if op &&& 0xF8 = 0x08 then .cmdReserved08 (op.extractLsb' 0 3) arg
  else if op &&& 0xF0 = 0x10 then .cmdReserved10 (op.extractLsb' 0 4) arg
  else if op &&& 0xE0 = 0x20 then .cmdReserved20 (op.extractLsb' 0 5) arg
  else if op &&& 0xC0 = 0x40 then .cmdReserved40 (op.extractLsb' 0 6) arg
  else .cmdReserved80 (op.extractLsb' 0 7) arg

/-- A command word is its `op` and its `arg` (R99). -/
def decodeCmd (c : CommandWord) : Instr := decodeOp (opField c) (argField c)

/-- A strobe at 1 is its operation, a strobe at 0 is none (R105). -/
def strobed (strobe : BitVec 1) (i : Instr) : Except Reject Instr :=
  if strobe = 1#1 then .ok i else .error .strobeNotAsserted

/-- The decoder. Total: a word that encodes no operation is rejected by name (log 9). -/
def decode (c : Config) : PortWord → Except Reject Instr
  | .midiIn b => .ok (decodeMidi b)
  | .cmdIn w => .ok (decodeCmd w)
  | .tickIn strobe => strobed strobe .tick
  | .renderIn strobe r =>
      if strobe = 1#1 ∧ r.length ≠ c.B then .error .blockLength else strobed strobe (.render r)
  | .releaseIn strobe k => strobed strobe (.release k)
  | .resetIn strobe => strobed strobe .reset
  | .step code =>
      if code = 0b10#2 then .ok .delay else if code = 0b11#2 then .ok .emit else .error .noSuchStep

/-! ## Encoding -/

/-- The word that carries an operation: a status byte is `1 ‖ type ‖ chan` (R93), a data byte `0 ‖ val7` (R95), a command
word `op ‖ arg` (R99), a strobe 1 beside its payload, a step the value of `sch.st` that enables it (R105). -/
def encode : Instr → PortWord
  | .mdData v => .midiIn (0b0#1 ++ v)
  | .mdNoteOff ch => .midiIn (0x8#4 ++ ch)
  | .mdNoteOn ch => .midiIn (0x9#4 ++ ch)
  | .mdPolyAt ch => .midiIn (0xA#4 ++ ch)
  | .mdCc ch => .midiIn (0xB#4 ++ ch)
  | .mdProg ch => .midiIn (0xC#4 ++ ch)
  | .mdChanAt ch => .midiIn (0xD#4 ++ ch)
  | .mdPBend ch => .midiIn (0xE#4 ++ ch)
  | .mdSys low => .midiIn (0xF#4 ++ low)
  | .setOfs n => .cmdIn (0x01#8 ++ n)
  | .setGain g => .cmdIn (0x02#8 ++ g)
  | .rdStat r => .cmdIn (0x03#8 ++ r)
  | .cmdReserved00 arg => .cmdIn (0x00#8 ++ arg)
  | .cmdReserved04 op arg => .cmdIn ((0b000001#6 ++ op : BitVec 8) ++ arg)
  | .cmdReserved08 op arg => .cmdIn ((0b00001#5 ++ op : BitVec 8) ++ arg)
  | .cmdReserved10 op arg => .cmdIn ((0b0001#4 ++ op : BitVec 8) ++ arg)
  | .cmdReserved20 op arg => .cmdIn ((0b001#3 ++ op : BitVec 8) ++ arg)
  | .cmdReserved40 op arg => .cmdIn ((0b01#2 ++ op : BitVec 8) ++ arg)
  | .cmdReserved80 op arg => .cmdIn ((0b1#1 ++ op : BitVec 8) ++ arg)
  | .tick => .tickIn 1#1
  | .render r => .renderIn 1#1 r
  | .release k => .releaseIn 1#1 k
  | .reset => .resetIn 1#1
  | .delay => .step 0b10#2
  | .emit => .step 0b11#2

/-! ## The opcode table as data -/

/-- The input ports of R91, and the scheduler's own STEP format. -/
inductive Port where
  | midiIn | cmdIn | tickIn | renderIn | releaseIn | resetIn | step
  deriving DecidableEq, Repr

/-- The port a word is presented on. -/
def PortWord.port : PortWord → Port
  | .midiIn _ => .midiIn
  | .cmdIn _ => .cmdIn
  | .tickIn _ => .tickIn
  | .renderIn _ _ => .renderIn
  | .releaseIn _ _ => .releaseIn
  | .resetIn _ => .resetIn
  | .step _ => .step

/-- The code bits of a port word, as a number with bit 0 least significant (payloads are no code bits). -/
def PortWord.codeBits : PortWord → Nat
  | .midiIn b => b.toNat
  | .cmdIn c => c.toNat
  | .tickIn strobe => strobe.toNat
  | .renderIn strobe _ => strobe.toNat
  | .releaseIn strobe _ => strobe.toNat
  | .resetIn strobe => strobe.toNat
  | .step code => code.toNat

/-- One row of the opcode table: its port, and its match under its mask. -/
structure OpcodeRow where
  mnemonic : String
  port : Port
  pattern : Nat
  mask : Nat
  deriving DecidableEq, Repr

/-- A row admits the words of its port whose code bits under the mask are the row's pattern (R94). -/
def OpcodeRow.admits (row : OpcodeRow) (w : PortWord) : Bool :=
  decide (w.port = row.port) && decide (w.codeBits &&& row.mask = row.pattern)

/-- The row of spec/opcode_table.json an operation belongs to. -/
def Instr.row : Instr → OpcodeRow
  | .mdData _ => ⟨"MD.DATA", .midiIn, 0x00, 0x80⟩
  | .mdNoteOff _ => ⟨"MD.NOTEOFF", .midiIn, 0x80, 0xF0⟩
  | .mdNoteOn _ => ⟨"MD.NOTEON", .midiIn, 0x90, 0xF0⟩
  | .mdPolyAt _ => ⟨"MD.POLYAT", .midiIn, 0xA0, 0xF0⟩
  | .mdCc _ => ⟨"MD.CC", .midiIn, 0xB0, 0xF0⟩
  | .mdProg _ => ⟨"MD.PROG", .midiIn, 0xC0, 0xF0⟩
  | .mdChanAt _ => ⟨"MD.CHANAT", .midiIn, 0xD0, 0xF0⟩
  | .mdPBend _ => ⟨"MD.PBEND", .midiIn, 0xE0, 0xF0⟩
  | .mdSys _ => ⟨"MD.SYS", .midiIn, 0xF0, 0xF0⟩
  | .setOfs _ => ⟨"SETOFS", .cmdIn, 0x010000, 0xFF0000⟩
  | .setGain _ => ⟨"SETGAIN", .cmdIn, 0x020000, 0xFF0000⟩
  | .rdStat _ => ⟨"RDSTAT", .cmdIn, 0x030000, 0xFF0000⟩
  | .cmdReserved00 _ => ⟨"CMD.RESERVED.00", .cmdIn, 0x000000, 0xFF0000⟩
  | .cmdReserved04 _ _ => ⟨"CMD.RESERVED.04", .cmdIn, 0x040000, 0xFC0000⟩
  | .cmdReserved08 _ _ => ⟨"CMD.RESERVED.08", .cmdIn, 0x080000, 0xF80000⟩
  | .cmdReserved10 _ _ => ⟨"CMD.RESERVED.10", .cmdIn, 0x100000, 0xF00000⟩
  | .cmdReserved20 _ _ => ⟨"CMD.RESERVED.20", .cmdIn, 0x200000, 0xE00000⟩
  | .cmdReserved40 _ _ => ⟨"CMD.RESERVED.40", .cmdIn, 0x400000, 0xC00000⟩
  | .cmdReserved80 _ _ => ⟨"CMD.RESERVED.80", .cmdIn, 0x800000, 0x800000⟩
  | .tick => ⟨"TICK", .tickIn, 1, 1⟩
  | .render _ => ⟨"RENDER", .renderIn, 1, 1⟩
  | .release _ => ⟨"RELEASE", .releaseIn, 1, 1⟩
  | .reset => ⟨"RESET", .resetIn, 1, 1⟩
  | .delay => ⟨"DELAY", .step, 0b10, 0b11⟩
  | .emit => ⟨"EMIT", .step, 0b11, 0b11⟩

/-- One operation of every row, in the opcode table's order. -/
def rowExamples : List Instr :=
  [.mdData 0, .mdNoteOff 0, .mdNoteOn 0, .mdPolyAt 0, .mdCc 0, .mdProg 0, .mdChanAt 0, .mdPBend 0, .mdSys 0]
    ++ [.setOfs 0, .setGain 0, .rdStat 0, .cmdReserved00 0, .cmdReserved04 0 0, .cmdReserved08 0 0]
    ++ [.cmdReserved10 0 0, .cmdReserved20 0 0, .cmdReserved40 0 0, .cmdReserved80 0 0]
    ++ [.tick, .render [], .release 0, .reset, .delay, .emit]

/-- The opcode table's 25 rows. -/
def opcodeRows : List OpcodeRow := rowExamples.map Instr.row

/-! ## The host's numbering of a row's bits -/

/-- The port word the opcode table's bits stand for: 8 bits are a byte on MIDI_IN, 24 a command word on CMD_IN, 2 a STEP code.
A bare strobe bit names no port, so it is no word (log 14). -/
def tableWord (nbits w : Nat) : Option PortWord :=
  match nbits with
  | 8 => some (.midiIn (BitVec.ofNat 8 w))
  | 24 => some (.cmdIn (BitVec.ofNat 24 w))
  | 2 => some (.step (BitVec.ofNat 2 w))
  | _ => none

/-- What the decoder reads from an instruction's bits numbered as the opcode table numbers them. -/
def decodeTableWord (nbits w : Nat) : Option Instr :=
  match tableWord nbits w with
  | none => none
  | some pw =>
    match decode Config.default pw with
    | .ok i => some i
    | .error _ => none

end Sys2Proof
end

