-- ==== Sys2Proof/Machine/State.lean ====
section
/-! DEFINITION. The whole state of the core (10_state.md R20), its outputs (00_scope.md R16), the pending port words, the
reasons a step can stop, and the state after reset (R38). Plain data throughout. -/

namespace Sys2Proof.Machine

/-- The decoder's state (R26, U9: three values). -/
inductive MdState where
  | idle | awaitingData1 | awaitingData2
  deriving DecidableEq, Repr

/-- The scheduler's state (R33). -/
inductive SchState where
  | idle | rendering | delaying | emitting
  deriving DecidableEq, Repr

/-- The owner of a block buffer (R32). -/
inductive Owner where
  | sched | sink
  deriving DecidableEq, Repr

/-- An element-indexed memory of `w`-bit elements (20_memory.md R60): (index, element) pairs in the canonical form that
Ops.lean's `Memory.wf` checks. An unlisted index reads 0 (log 6, log 7, log 12). -/
abbrev Memory (w : Nat) := List (Nat × BitVec w)

/-- One record of BLKOUT (30_encoding.md R106). -/
structure BlockRecord where
  index : Nat
  samples : List Sample
  deriving DecidableEq, Repr

/-- The state. Names on the right are the spec's. -/
structure State where
  /-- The parameter record: no operation changes it (00_scope.md R7, log 1). -/
  cfg : Config
  /-- `dl.wp` (R21). -/
  wp : U16
  /-- `dl.dofs` (R22). -/
  dofs : U16
  /-- `dl.gain`, 15 fraction bits (R23). -/
  gain : U16
  /-- `buf`, indexes 0 to Q - 1 (R25). -/
  buf : Memory 16
  /-- `md.st` (R26). -/
  mdSt : MdState
  /-- `md.rsv` (R27). -/
  rsv : Bool
  /-- `md.rs` (R27). -/
  rs : Byte
  /-- `md.d1` (R28). -/
  d1 : BitVec 7
  /-- `mq` storage, indexes 0 to MIDIQ_CAP - 1 (R29). -/
  mq : Memory 24
  /-- `mq.head` (R29). -/
  mqHead : Nat
  /-- `mq.cnt` (R29). -/
  mqCnt : Nat
  /-- `blk[k]`, one memory of indexes 0 to B - 1 for each k below NBUF (R30). -/
  blk : List (Memory 16)
  /-- `own[k]` for each k below NBUF (R32). -/
  own : List Owner
  /-- `sch.cur` (R31). -/
  cur : Nat
  /-- `sch.st` (R33). -/
  schSt : SchState
  /-- `ERR` (R34). -/
  err : U16
  /-- `URUN_CNT` (R35). -/
  urunCnt : U16
  /-- `FERR_CNT` (R35). -/
  ferrCnt : U16
  /-- `QOVF_CNT` (R35). -/
  qovfCnt : U16
  /-- The history of EVOUT, earliest first (00_scope.md R16, 44_blockscheduler.md R202). -/
  evout : List (List EventWord)
  /-- The history of BLKOUT, earliest first (R16, 30_encoding.md R106). -/
  blkout : List BlockRecord
  /-- The history of RESP, earliest first (R16, 30_encoding.md R104). -/
  resp : List ResponseWord
  /-- THE MODEL'S OWN FIELD: the port words still to be taken, in the order the environment chose (log 3). -/
  inbox : List PortWord
  deriving DecidableEq, Repr

/-- Why the machine is stuck. Raised by the two internal steps only, and only outside the state that enables them: there "the
operation has no step" (00_scope.md R17, 93_implementation_defined.md U18). Safe (log 8). -/
inductive Fault where
  /-- DELAY while `sch.st` is not Delaying. Raised by `execDelay`. Safe. -/
  | delayNotEnabled
  /-- EMIT while `sch.st` is not Emitting. Raised by `execEmit`. Safe. -/
  | emitNotEnabled
  deriving DecidableEq, Repr

/-- Why the model refuses. -/
inductive Refusal where
  /-- An operation without a meaning yet. Raised by `exec` alone. Safe. -/
  | notModelled (mnemonic : String)
  /-- A port word, or a RENDER term, that is no operation. Raised by `step` and by `execRender`. Safe (log 9). -/
  | rejected (why : Reject)
  deriving DecidableEq, Repr

/-- The state after reset under a parameter record (R38), with nothing output and nothing pending. -/
def State.resetOf (c : Config) : State where
  cfg := c
  wp := 0
  dofs := BitVec.ofNat 16 c.dofsReset
  gain := BitVec.ofNat 16 c.gainReset
  buf := []
  mdSt := .idle
  rsv := false
  rs := 0
  d1 := 0
  mq := []
  mqHead := 0
  mqCnt := 0
  blk := List.replicate c.nbuf []
  own := List.replicate c.nbuf .sched
  cur := 0
  schSt := .idle
  err := 0
  urunCnt := 0
  ferrCnt := 0
  qovfCnt := 0
  evout := []
  blkout := []
  resp := []
  inbox := []

/-- The machine right after reset, under the default parameter record (log 2). -/
def State.reset : State := State.resetOf Config.default

end Sys2Proof.Machine
end

