-- ==== Sys2Proof/Machine/Flags.lean ====
section
/-! DEFINITION. The four error conditions, their flags in `ERR`, and the saturating counter (60_exceptions.md R240,
10_state.md R34, R35). -/

namespace Sys2Proof.Machine

/-- The error conditions of R240. -/
inductive Condition where
  | underrun | framingError | queueOverflow | offsetOutOfRange
  deriving DecidableEq, Repr

/-- A condition's code, its bit number in `ERR` (R240). -/
def Condition.code : Condition → Nat
  | .underrun => 0
  | .framingError => 1
  | .queueOverflow => 2
  | .offsetOutOfRange => 3

/-- A condition's flag as a mask of `ERR` (R34). -/
def Condition.flag (c : Condition) : U16 := 1#16 <<< c.code

/-- `satinc`: one more, but 65535 stays (00_scope.md R13, 10_state.md R35). -/
def satinc (n : U16) : U16 := if n.toNat < 65535 then n + 1 else 65535#16

/-- What the counters of `raise` become: the counter of the condition goes up by `satinc`; `OffsetOutOfRange` has none (R240). -/
def urunAfter (c : Condition) (n : U16) : U16 :=
  match c with
  | .underrun => satinc n
  | .framingError => n
  | .queueOverflow => n
  | .offsetOutOfRange => n

/-- `FERR_CNT` after a condition (R240). -/
def ferrAfter (c : Condition) (n : U16) : U16 :=
  match c with
  | .underrun => n
  | .framingError => satinc n
  | .queueOverflow => n
  | .offsetOutOfRange => n

/-- `QOVF_CNT` after a condition (R240). -/
def qovfAfter (c : Condition) (n : U16) : U16 :=
  match c with
  | .underrun => n
  | .framingError => n
  | .queueOverflow => satinc n
  | .offsetOutOfRange => n

end Sys2Proof.Machine
end

