-- ==== Sys2Proof/Machine/Operands.lean ====
section
/-! DEFINITION. The arithmetic of 00_scope.md R13, the message table of 41_mididecoder.md R131, the words of 30_encoding.md
R98 and R104, and the codes of the two state registers (10_state.md R26, R33). -/

namespace Sys2Proof.Machine

/-! ## Arithmetic over the integers (R13) -/

/-- `emod(a, n)`: the remainder between 0 and n - 1, also for a negative `a`. -/
def emod (a : Int) (n : Nat) : Nat := (a % (n : Int)).toNat

/-- `clamp(v, lo, hi)`. -/
def clamp (v lo hi : Int) : Int := if v < lo then lo else if hi < v then hi else v

/-- `sat16(v)`: saturate to s16. -/
def sat16 (v : Int) : Int := clamp v (-32768) 32767

/-- `tdiv(a, n)`: quotient rounded toward zero. -/
def tdiv (a : Int) (n : Nat) : Int := Int.tdiv a (n : Int)

/-- `mulg(g, x)`: the gain product, rounded toward zero (42_delayline.md R161). -/
def mulg (g : Nat) (x : Int) : Int := tdiv ((g : Int) * x) 32768

/-- A value already within s16 as a sample. -/
def toSample (v : Int) : Sample := BitVec.ofInt 16 v

/-! ## Status bytes and event words -/

/-- A status byte `1 ‖ type ‖ chan` (30_encoding.md R93). -/
def statusByte (type : BitVec 3) (chan : BitVec 4) : Byte := 0b1#1 ++ type ++ chan

/-- `s[6:4]`, a status byte's message type (R93). -/
def typeField (s : Byte) : BitVec 3 := s.extractLsb' 4 3

/-- `DLEN(s)`: how many data bytes follow (41_mididecoder.md R131, log 15). -/
def dlen (s : Byte) : Nat := if typeField s = 0b100 ∨ typeField s = 0b101 then 1 else 2

/-- `EMITS(s)`: whether the completed message is an event (R131, log 15). -/
def emits (s : Byte) : Bool := decide (typeField s = 0b000 ∨ typeField s = 0b001 ∨ typeField s = 0b011)

/-- `ev = status ‖ (0 ‖ num) ‖ (0 ‖ val)` (30_encoding.md R98). -/
def eventWord (status : Byte) (num val : BitVec 7) : EventWord :=
  status ++ (0b0#1 ++ num : BitVec 8) ++ (0b0#1 ++ val : BitVec 8)

/-- A well-formed event word: kind 0x8, 0x9 or 0xB, and bits 15 and 7 zero (R98). -/
def eventWf (ev : EventWord) : Bool :=
  decide (ev.extractLsb' 20 4 = 0x8 ∨ ev.extractLsb' 20 4 = 0x9 ∨ ev.extractLsb' 20 4 = 0xB)
    && !ev.getLsbD 15 && !ev.getLsbD 7

/-- The response word `err ‖ data` (30_encoding.md R104). -/
def responseWord (err : Bool) (data : U16) : ResponseWord := BitVec.ofBool err ++ data

/-! ## Codes of the state registers -/

/-- `md.st`: Idle 0, AwaitingData1 1, AwaitingData2 2 (R26). -/
def MdState.code : MdState → BitVec 2
  | .idle => 0
  | .awaitingData1 => 1
  | .awaitingData2 => 2

/-- `sch.st`: Idle 0, Rendering 1, Delaying 2, Emitting 3 (R33). -/
def SchState.code : SchState → BitVec 2
  | .idle => 0
  | .rendering => 1
  | .delaying => 2
  | .emitting => 3

/-- The scheduler state with a code. -/
def schStateOf (code : BitVec 2) : SchState :=
  if code = 0 then .idle else if code = 1 then .rendering else if code = 2 then .delaying else .emitting

end Sys2Proof.Machine
end

