-- ==== Sys2Proof/Machine/Ops.lean ====
section
/-! DEFINITION. The shared operations: element-indexed memory, single register writes, `raise`, the event queue, the delay
line, block buffers, responses, and taking the next port word. -/

namespace Sys2Proof.Machine

/-! ## Element-indexed memory (00_scope.md R12, 20_memory.md R60) -/

/-- `MemRead(m, a, 1)`: the element at index `a`; an unlisted index reads 0 (log 12). -/
def Memory.read {w : Nat} : Memory w → Nat → BitVec w
  | [], _ => 0#w
  | (b, u) :: m, a => if a = b then u else Memory.read m a

/-- `MemWrite(m, a, 1, v)`, keeping the canonical form: writing 0 removes the entry. -/
def Memory.write {w : Nat} : Memory w → Nat → BitVec w → Memory w
  | [], a, v => if v = 0#w then [] else [(a, v)]
  | (b, u) :: m, a, v =>
    if a < b then (if v = 0#w then (b, u) :: m else (a, v) :: (b, u) :: m)
    else if a = b then (if v = 0#w then m else (a, v) :: m)
    else (b, u) :: Memory.write m a v

/-- The canonical form: indexes strictly rising, no listed element 0. -/
def Memory.wf {w : Nat} : Memory w → Bool
  | [] => true
  | (a, v) :: m => decide (v ≠ 0#w) && m.all (fun cell => decide (a < cell.1)) && Memory.wf m

/-- Every listed index is below `n`: the memory has no element outside its range. -/
def Memory.within {w : Nat} (m : Memory w) (n : Nat) : Bool := m.all fun cell => decide (cell.1 < n)

/-- The first `n` elements, in index order. -/
def Memory.readBlock {w : Nat} (m : Memory w) (n : Nat) : List (BitVec w) := (List.range n).map (Memory.read m)

/-- Write a list of elements to indexes `i`, `i + 1`, …, in that order. -/
def Memory.writeFrom {w : Nat} : Memory w → Nat → List (BitVec w) → Memory w
  | m, _, [] => m
  | m, i, v :: vs => Memory.writeFrom (Memory.write m i v) (i + 1) vs

/-! ## Writes of single registers, memories and outputs -/

/-- `dl.wp` and `buf` together: DL.PROCESS writes both (R164, R25). -/
def State.setDelayLine (s : State) (wp : U16) (buf : Memory 16) : State := { s with wp := wp, buf := buf }

/-- `dl.dofs`. -/
def State.setDofs (s : State) (v : U16) : State := { s with dofs := v }

/-- `dl.gain`. -/
def State.setGain (s : State) (v : U16) : State := { s with gain := v }

/-- `md.st`. -/
def State.setMdSt (s : State) (v : MdState) : State := { s with mdSt := v }

/-- `md.rsv`. -/
def State.setRsv (s : State) (v : Bool) : State := { s with rsv := v }

/-- `md.rs`. -/
def State.setRs (s : State) (v : Byte) : State := { s with rs := v }

/-- `md.d1`. -/
def State.setD1 (s : State) (v : BitVec 7) : State := { s with d1 := v }

/-- `mq` storage. -/
def State.setMq (s : State) (v : Memory 24) : State := { s with mq := v }

/-- `mq.head` and `mq.cnt`. -/
def State.setMqCursors (s : State) (head cnt : Nat) : State := { s with mqHead := head, mqCnt := cnt }

/-- `blk[k]`. -/
def State.setBlock (s : State) (k : Nat) (m : Memory 16) : State := { s with blk := s.blk.set k m }

/-- `own[k]`. -/
def State.setOwner (s : State) (k : Nat) (o : Owner) : State := { s with own := s.own.set k o }

/-- `sch.cur`. -/
def State.setCur (s : State) (v : Nat) : State := { s with cur := v }

/-- `sch.st`. -/
def State.setSchSt (s : State) (v : SchState) : State := { s with schSt := v }

/-- `ERR` and the three counters. -/
def State.setErrors (s : State) (err urun ferr qovf : U16) : State := { s with err := err, urunCnt := urun, ferrCnt := ferr, qovfCnt := qovf }

/-- `out EVOUT(evs)`. -/
def State.putEvout (s : State) (evs : List EventWord) : State := { s with evout := s.evout ++ [evs] }

/-- `out BLKOUT(r)`. -/
def State.putBlkout (s : State) (r : BlockRecord) : State := { s with blkout := s.blkout ++ [r] }

/-- `out RESP(p)`. -/
def State.putResp (s : State) (p : ResponseWord) : State := { s with resp := s.resp ++ [p] }

/-- The pending port words (log 3). -/
def State.setInbox (s : State) (ws : List PortWord) : State := { s with inbox := ws }

/-! ## Error conditions: the core's only exceptions (60_exceptions.md R240) -/

/-- `raise <Condition>()`: set the condition's sticky flag and bump its counter, then go on. It saves nothing, switches no
mode and sends control nowhere; there is no return from it (R252, R253). -/
def raise (c : Condition) (s : State) : State :=
  s.setErrors (s.err ||| c.flag) (urunAfter c s.urunCnt) (ferrAfter c s.ferrCnt) (qovfAfter c s.qovfCnt)

/-- `raise` under a condition on the state. -/
def raiseIf (b : Bool) (c : Condition) (s : State) : State := if b then raise c s else s

/-! ## The event queue (43_midiqueue.md) -/

/-- The queued events, oldest first (10_state.md R29). -/
def queued (s : State) : List EventWord :=
  (List.range s.mqCnt).map fun (j : Nat) => s.mq.read (emod ((s.mqHead : Int) + (j : Int)) s.cfg.midiqCap)

/-- The overflow arm of MQ.PUSH: when the queue is full, drop the oldest event and record it (R191). -/
def mqMakeRoom (s : State) : State :=
  if s.mqCnt = s.cfg.midiqCap then
    (raise .queueOverflow s).setMqCursors (emod ((s.mqHead : Int) + 1) s.cfg.midiqCap) (s.mqCnt - 1)
  else s

/-- `MQ.PUSH(ev)` (R191). -/
def mqPush (ev : EventWord) (s : State) : State :=
  let s1 := mqMakeRoom s
  (s1.setMq (s1.mq.write (emod ((s1.mqHead : Int) + s1.mqCnt) s1.cfg.midiqCap) ev)).setMqCursors s1.mqHead (s1.mqCnt + 1)

/-- `MQ.DRAIN()`: the state it leaves; the events it returns are `queued` of the state before (R193). -/
def mqDrain (s : State) : State :=
  s.setMqCursors (emod ((s.mqHead : Int) + s.mqCnt) s.cfg.midiqCap) 0

/-! ## The MIDI decoder (41_mididecoder.md) -/

/-- The common rule of the seven channel-voice status classes (R132). -/
def channelStatus (b : Byte) (s : State) : State :=
  (((raiseIf (decide (s.mdSt ≠ .idle)) .framingError s).setRs b).setRsv true).setMdSt .awaitingData1

/-- The first, or only, data byte of a message (R141 when DLEN is 2, R142 when DLEN is 1). -/
def firstDataByte (v : BitVec 7) (s : State) : State :=
  if dlen s.rs = 2 then (s.setD1 v).setMdSt .awaitingData2 else s.setMdSt .idle

/-- The second data byte: the message completes (R143). -/
def secondDataByte (v : BitVec 7) (s : State) : State :=
  (if emits s.rs then mqPush (eventWord s.rs s.d1 v) s else s).setMdSt .idle

/-- A data byte (R140), with nothing to belong to in Idle without running status (R144). -/
def dataByte (v : BitVec 7) (s : State) : State :=
  match s.mdSt with
  | .awaitingData2 => secondDataByte v s
  | .awaitingData1 => firstDataByte v s
  | .idle => if s.rsv then firstDataByte v s else raise .framingError s

/-- A system byte (R145). -/
def systemByte (s : State) : State :=
  ((raiseIf (decide (s.mdSt ≠ .idle)) .framingError s).setMdSt .idle).setRsv false

/-! ## The delay line (42_delayline.md) -/

/-- The tap index `ra` of sample `i` (R162). -/
def tapIndex (q wp d i : Nat) : Nat := emod ((wp : Int) + i - d) q

/-- The write index `wa` of sample `i` (R162). -/
def writeIndex (q wp i : Nat) : Nat := emod ((wp : Int) + i) q

/-- The output sample `y` of R162, from the input sample and the tap. -/
def outSample (g : Nat) (x tap : Sample) : Sample := toSample (sat16 (x.toInt + mulg g tap.toInt))

/-- The sample `w` of R162 that is written back, from the input and the output sample: the same formula. -/
def backSample (g : Nat) (x y : Sample) : Sample := toSample (sat16 (x.toInt + mulg g y.toInt))

/-- `DL.SAMPLE(i, x)` (R162): the output sample and the buffer after it. The tap is read before the write. -/
def dlSample (q wp d g i : Nat) (x : Sample) (buf : Memory 16) : Sample × Memory 16 :=
  let y := outSample g x (buf.read (tapIndex q wp d i))
  (y, buf.write (writeIndex q wp i) (backSample g x y))

/-- The loop of DL.PROCESS (R163) from sample `i` on, strictly in index order. -/
def dlRun (q wp d g : Nat) : Nat → List Sample → Memory 16 → List Sample × Memory 16
  | _, [], buf => ([], buf)
  | i, x :: xs, buf =>
    let first := dlSample q wp d g i x buf
    let rest := dlRun q wp d g (i + 1) xs first.2
    (first.1 :: rest.1, rest.2)

/-- The write pointer after one block (R164). -/
def nextWp (c : Config) (wp : U16) : U16 := BitVec.ofNat 16 (emod ((wp.toNat : Int) + c.B) c.Q)

/-- `DL.PROCESS(in)` (R163): the output block and the state after it. `dl.wp`, `dl.dofs` and `dl.gain` are read once. -/
def dlProcess (input : List Sample) (s : State) : List Sample × State :=
  let out := dlRun s.cfg.Q s.wp.toNat s.dofs.toNat s.gain.toNat 0 input s.buf
  (out.1, s.setDelayLine (nextWp s.cfg s.wp) out.2)

/-- `dl.rp`, the read pointer of the next block (10_state.md R24). -/
def readPointer (s : State) : Nat := emod ((s.wp.toNat : Int) - s.dofs.toNat) s.cfg.Q

/-! ## Block buffers (20_memory.md R70) -/

/-- The memory of block buffer `k`. -/
def blockOf (s : State) (k : Nat) : Memory 16 := s.blk.getD k []

/-- The samples of block buffer `k`, sample 0 first (10_state.md R30). -/
def samplesOf (s : State) (k : Nat) : List Sample := (blockOf s k).readBlock s.cfg.B

/-- Write a block of samples over block buffer `k`, from sample 0 on. -/
def storeBlock (k : Nat) (samples : List Sample) (s : State) : State :=
  s.setBlock k ((blockOf s k).writeFrom 0 samples)

/-- `own[k]` (10_state.md R32). -/
def ownerOf (s : State) (k : Nat) : Owner := s.own.getD k .sched

/-! ## The host port (45_hostport.md) -/

/-- `out RESP(err, data)`. -/
def respond (err : Bool) (data : U16) (s : State) : State := s.putResp (responseWord err data)

/-- View 8: `zext_16(md.st ‖ sch.st)` (R231). -/
def fsmView (s : State) : U16 := (s.mdSt.code ++ s.schSt.code).zeroExtend 16

/-- View 9: `mq.cnt` as a u16 (R231). A count that 16 bits cannot hold reads as a free value (log 10). -/
def queueCountView (s : State) : U16 :=
  if s.mqCnt < 65536 then BitVec.ofNat 16 s.mqCnt else Config.wideQueueCount s.mqCnt

/-- `VIEW(r)`: the ten register views; other numbers are reserved (R231, R232). -/
def view (s : State) (r : U16) : Option U16 :=
  match r.toNat with
  | 0 => some s.err
  | 1 => some s.urunCnt
  | 2 => some s.ferrCnt
  | 3 => some s.qovfCnt
  | 4 => some s.dofs
  | 5 => some s.gain
  | 6 => some s.wp
  | 7 => some (BitVec.ofNat 16 (readPointer s))
  | 8 => some (fsmView s)
  | 9 => some (queueCountView s)
  | _ => none

/-- The answer to a reserved command word (R234). -/
def answerReserved (s : State) : State := respond true 0 s

/-! ## RESET (45_hostport.md R236) -/

/-- Every register and memory element at its reset value. The output histories go on, and what is still to arrive is no
state of the core's (log 3, log 5). -/
def resetState (s : State) : State :=
  { State.resetOf s.cfg with evout := s.evout, blkout := s.blkout, resp := s.resp, inbox := s.inbox }

/-! ## Taking the next operation (log 3, log 4) -/

/-- The word of the next operation: the first pending port word, or, with none pending, the value of `sch.st`, which is the
STEP encoding of the internal step it enables (30_encoding.md R105). -/
def fetchWord (s : State) : PortWord :=
  match s.inbox with
  | [] => .step s.schSt.code
  | w :: _ => w

/-- The state in which the fetched operation runs: a port word taken is pending no more. -/
def afterFetch (s : State) : State := s.setInbox s.inbox.tail

/-- What a step does when the fetched word is no operation: with nothing pending the core rests (R289), else the word is
refused by name (log 4, log 9). -/
def onReject (why : Reject) (s : State) : Host.Outcome State Fault Refusal :=
  match s.inbox with
  | [] => .next s
  | _ :: _ => .refused (.rejected why)

/-- Put a word where the next step takes it. A STEP code's operation is enabled by `sch.st` alone, so that state goes with
it (R105, log 14). -/
def placeWord (pw : PortWord) (s : State) : State :=
  match pw with
  | .step code => (s.setInbox (pw :: s.inbox)).setSchSt (schStateOf code)
  | .midiIn _ => s.setInbox (pw :: s.inbox)
  | .cmdIn _ => s.setInbox (pw :: s.inbox)
  | .tickIn _ => s.setInbox (pw :: s.inbox)
  | .renderIn _ _ => s.setInbox (pw :: s.inbox)
  | .releaseIn _ _ => s.setInbox (pw :: s.inbox)
  | .resetIn _ => s.setInbox (pw :: s.inbox)

end Sys2Proof.Machine
end

