-- ==== Sys2Proof/Machine/HostPort.lean ====
section
/-! DEFINITION. The host commands (42_delayline.md R171, R173; 45_hostport.md R230 to R236) and RESET. -/

namespace Sys2Proof.Machine

/-- SETOFS (R171): above the capacity refused, else clamped to [1, Q - 1]; the answer is the offset now held. -/
def execSetOfs (n : U16) (s : State) : Host.Outcome State Fault Refusal :=
  if s.cfg.Q < n.toNat then
    .next (respond true s.dofs (raise .offsetOutOfRange s))
  else
    let held := BitVec.ofInt 16 (clamp n.toNat 1 ((s.cfg.Q : Int) - 1))
    .next (respond false held (s.setDofs held))

/-- SETGAIN (R173): clamped to [0, GAIN_MAX], never refused. -/
def execSetGain (g : U16) (s : State) : Host.Outcome State Fault Refusal :=
  let held := BitVec.ofInt 16 (clamp g.toNat 0 s.cfg.gainMax)
  .next (respond false held (s.setGain held))

/-- RDSTAT (R230): a defined view is answered, a reserved number gets `err` = 1 and 0 (R232). -/
def execRdStat (r : U16) (s : State) : Host.Outcome State Fault Refusal :=
  match view s r with
  | some data => .next (respond false data s)
  | none => .next (respond true 0 s)

/-- Reserved command, op 0x00 (R234). -/
def execCmdReserved00 (_arg : U16) (s : State) : Host.Outcome State Fault Refusal :=
  .next (answerReserved s)

/-- Reserved command, op 0x04 to 0x07 (R234). -/
def execCmdReserved04 (_op : BitVec 2) (_arg : U16) (s : State) : Host.Outcome State Fault Refusal :=
  .next (answerReserved s)

/-- Reserved command, op 0x08 to 0x0F (R234). -/
def execCmdReserved08 (_op : BitVec 3) (_arg : U16) (s : State) : Host.Outcome State Fault Refusal :=
  .next (answerReserved s)

/-- Reserved command, op 0x10 to 0x1F (R234). -/
def execCmdReserved10 (_op : BitVec 4) (_arg : U16) (s : State) : Host.Outcome State Fault Refusal :=
  .next (answerReserved s)

/-- Reserved command, op 0x20 to 0x3F (R234). -/
def execCmdReserved20 (_op : BitVec 5) (_arg : U16) (s : State) : Host.Outcome State Fault Refusal :=
  .next (answerReserved s)

/-- Reserved command, op 0x40 to 0x7F (R234). -/
def execCmdReserved40 (_op : BitVec 6) (_arg : U16) (s : State) : Host.Outcome State Fault Refusal :=
  .next (answerReserved s)

/-- Reserved command, op 0x80 to 0xFF (R234). -/
def execCmdReserved80 (_op : BitVec 7) (_arg : U16) (s : State) : Host.Outcome State Fault Refusal :=
  .next (answerReserved s)

/-- RESET (R236): in any state, without a response and without an error condition. -/
def execReset (s : State) : Host.Outcome State Fault Refusal :=
  .next (resetState s)

end Sys2Proof.Machine
end

