-- ==== Sys2Proof/Machine/Midi.lean ====
section
/-! DEFINITION. The nine cases of BYTE (41_mididecoder.md), one meaning per byte class. -/

namespace Sys2Proof.Machine

/-- MD.DATA (R140 to R144). -/
def execMdData (val7 : BitVec 7) (s : State) : Host.Outcome State Fault Refusal :=
  .next (dataByte val7 s)

/-- MD.NOTEOFF (R133). -/
def execMdNoteOff (chan : BitVec 4) (s : State) : Host.Outcome State Fault Refusal :=
  .next (channelStatus (statusByte 0b000 chan) s)

/-- MD.NOTEON (R134). -/
def execMdNoteOn (chan : BitVec 4) (s : State) : Host.Outcome State Fault Refusal :=
  .next (channelStatus (statusByte 0b001 chan) s)

/-- MD.POLYAT (R135). -/
def execMdPolyAt (chan : BitVec 4) (s : State) : Host.Outcome State Fault Refusal :=
  .next (channelStatus (statusByte 0b010 chan) s)

/-- MD.CC (R136). -/
def execMdCc (chan : BitVec 4) (s : State) : Host.Outcome State Fault Refusal :=
  .next (channelStatus (statusByte 0b011 chan) s)

/-- MD.PROG (R137). -/
def execMdProg (chan : BitVec 4) (s : State) : Host.Outcome State Fault Refusal :=
  .next (channelStatus (statusByte 0b100 chan) s)

/-- MD.CHANAT (R138). -/
def execMdChanAt (chan : BitVec 4) (s : State) : Host.Outcome State Fault Refusal :=
  .next (channelStatus (statusByte 0b101 chan) s)

/-- MD.PBEND (R139). -/
def execMdPBend (chan : BitVec 4) (s : State) : Host.Outcome State Fault Refusal :=
  .next (channelStatus (statusByte 0b110 chan) s)

/-- MD.SYS (R145): all sixteen system bytes alike, whatever `low` is. -/
def execMdSys (_low : BitVec 4) (s : State) : Host.Outcome State Fault Refusal :=
  .next (systemByte s)

end Sys2Proof.Machine
end

