-- ==== Sys2Proof/Machine/Scheduler.lean ====
section
/-! DEFINITION. The tick cycle and the buffer ownership (44_blockscheduler.md). -/

namespace Sys2Proof.Machine

/-- TICK: accepted in Idle with the next buffer free (R200), else dropped with Underrun (R201). -/
def execTick (s : State) : Host.Outcome State Fault Refusal :=
  if s.schSt = .idle ∧ ownerOf s s.cur = .sched then
    .next (((mqDrain s).putEvout (queued s)).setSchSt .rendering)
  else
    .next (raise .underrun s)

/-- RENDER: taken in Rendering (R203), ignored in any other state (R204). A term that is not `B` samples is no operation
(log 9). -/
def execRender (r : List Sample) (s : State) : Host.Outcome State Fault Refusal :=
  if r.length ≠ s.cfg.B then .refused (.rejected .blockLength)
  else if s.schSt = .rendering then .next ((storeBlock s.cur r s).setSchSt .delaying)
  else .next s

/-- RELEASE: the sink gives a buffer back (R208); an index out of range or a buffer it does not hold is ignored (R209). -/
def execRelease (k : Nat) (s : State) : Host.Outcome State Fault Refusal :=
  if k < s.cfg.nbuf ∧ ownerOf s k = .sink then .next (s.setOwner k .sched) else .next s

/-- DELAY: pass the block through the delay line, in place (R205, R206). Enabled in Delaying only (log 8). -/
def execDelay (s : State) : Host.Outcome State Fault Refusal :=
  if s.schSt = .delaying then
    let out := dlProcess (samplesOf s s.cur) s
    .next ((storeBlock s.cur out.1 out.2).setSchSt .emitting)
  else .fault .delayNotEnabled

/-- EMIT: hand the block to the sink without waiting (R207). Enabled in Emitting only (log 8). -/
def execEmit (s : State) : Host.Outcome State Fault Refusal :=
  if s.schSt = .emitting then
    .next ((((s.putBlkout ⟨s.cur, samplesOf s s.cur⟩).setOwner s.cur .sink).setCur
      (emod ((s.cur : Int) + 1) s.cfg.nbuf)).setSchSt .idle)
  else .fault .emitNotEnabled

end Sys2Proof.Machine
end

