-- ==== Sys2Proof/Machine/Dispatch.lean ====
section
/-! DEFINITION. One arm per operation. -/

namespace Sys2Proof.Machine

def exec (i : Instr) (s : State) : Host.Outcome State Fault Refusal :=
  match i with
  | .mdData val7 => Sys2Proof.Machine.execMdData val7 s
  | .mdNoteOff chan => Sys2Proof.Machine.execMdNoteOff chan s
  | .mdNoteOn chan => Sys2Proof.Machine.execMdNoteOn chan s
  | .mdPolyAt chan => Sys2Proof.Machine.execMdPolyAt chan s
  | .mdCc chan => Sys2Proof.Machine.execMdCc chan s
  | .mdProg chan => Sys2Proof.Machine.execMdProg chan s
  | .mdChanAt chan => Sys2Proof.Machine.execMdChanAt chan s
  | .mdPBend chan => Sys2Proof.Machine.execMdPBend chan s
  | .mdSys low => Sys2Proof.Machine.execMdSys low s
  | .setOfs n => Sys2Proof.Machine.execSetOfs n s
  | .setGain g => Sys2Proof.Machine.execSetGain g s
  | .rdStat r => Sys2Proof.Machine.execRdStat r s
  | .cmdReserved00 arg => Sys2Proof.Machine.execCmdReserved00 arg s
  | .cmdReserved04 op arg => Sys2Proof.Machine.execCmdReserved04 op arg s
  | .cmdReserved08 op arg => Sys2Proof.Machine.execCmdReserved08 op arg s
  | .cmdReserved10 op arg => Sys2Proof.Machine.execCmdReserved10 op arg s
  | .cmdReserved20 op arg => Sys2Proof.Machine.execCmdReserved20 op arg s
  | .cmdReserved40 op arg => Sys2Proof.Machine.execCmdReserved40 op arg s
  | .cmdReserved80 op arg => Sys2Proof.Machine.execCmdReserved80 op arg s
  | .tick => Sys2Proof.Machine.execTick s
  | .render r => Sys2Proof.Machine.execRender r s
  | .release k => Sys2Proof.Machine.execRelease k s
  | .reset => Sys2Proof.Machine.execReset s
  | .delay => Sys2Proof.Machine.execDelay s
  | .emit => Sys2Proof.Machine.execEmit s

end Sys2Proof.Machine
end

