-- ==== Sys2Proof/Machine/Step.lean ====
section
/-! DEFINITION. One step of the core: take the next operation's word, decode it, and run it. -/

namespace Sys2Proof.Machine

/-- One atomic operation (00_scope.md R15), or rest when nothing is pending and no internal step is enabled (log 4). -/
def step (s : State) : Host.Outcome State Fault Refusal :=
  match decode s.cfg (fetchWord s) with
  | .ok i => exec i (afterFetch s)
  | .error why => onReject why s

/-- The state whose next step takes the operation the opcode table's bits stand for (log 14). Bits that name no port leave the
state as it is. -/
def State.withFetchWord (s : State) (nbits w : Nat) : State :=
  match tableWord nbits w with
  | some pw => placeWord pw s
  | none => s

end Sys2Proof.Machine
end

