-- ==== Sys2Proof/Safety.lean ====
section
/-! DEFINITION. What claims about the core are stated in: the invariant of 10_state.md R37 with the shape of the memories and
histories, a run of a trace (00_scope.md R17), a quiescent state (R289), the agents' operations (R15), and the zero-input
blocks of the decay law (R168). -/

namespace Sys2Proof.Machine

/-- The invariants I-a to I-m of R37 (I-d is the type of `md.st`), one field each, then what the spec builds into the shape of
the memories and outputs (R30, R60, R106) and the canonical form of each memory (log 12). -/
structure State.Inv (s : State) : Prop where
  /-- I-a -/
  wp_lt : s.wp.toNat < s.cfg.Q
  /-- I-b -/
  dofs_pos : 1 ≤ s.dofs.toNat
  /-- I-b -/
  dofs_lt : s.dofs.toNat < s.cfg.Q
  /-- I-c -/
  gain_le : s.gain.toNat ≤ s.cfg.gainMax
  /-- I-e -/
  busy_has_status : s.mdSt ≠ .idle → s.rsv = true
  /-- I-f -/
  status_channel_voice : s.rsv = true → 0x80 ≤ s.rs.toNat ∧ s.rs.toNat ≤ 0xEF
  /-- I-g -/
  second_has_two : s.mdSt = .awaitingData2 → dlen s.rs = 2
  /-- I-h -/
  head_lt : s.mqHead < s.cfg.midiqCap
  /-- I-h -/
  cnt_le : s.mqCnt ≤ s.cfg.midiqCap
  /-- I-i -/
  queued_wf : ∀ ev ∈ queued s, eventWf ev = true
  /-- I-j -/
  cur_lt : s.cur < s.cfg.nbuf
  /-- I-k -/
  busy_owned : s.schSt ≠ .idle → ownerOf s s.cur = .sched
  /-- I-l -/
  err_reserved : s.err.extractLsb' 4 12 = 0
  /-- I-m -/
  urun_iff : s.err.getLsbD 0 = true ↔ 0 < s.urunCnt.toNat
  /-- I-m -/
  ferr_iff : s.err.getLsbD 1 = true ↔ 0 < s.ferrCnt.toNat
  /-- I-m -/
  qovf_iff : s.err.getLsbD 2 = true ↔ 0 < s.qovfCnt.toNat
  /-- One owner bit for each block buffer (R32). -/
  own_length : s.own.length = s.cfg.nbuf
  /-- NBUF block buffers (R30). -/
  blk_length : s.blk.length = s.cfg.nbuf
  buf_wf : s.buf.wf = true
  buf_within : s.buf.within s.cfg.Q = true
  mq_wf : s.mq.wf = true
  mq_within : s.mq.within s.cfg.midiqCap = true
  blk_wf : ∀ m ∈ s.blk, Memory.wf m = true
  blk_within : ∀ m ∈ s.blk, Memory.within m s.cfg.B = true
  /-- Every block ever emitted has exactly `B` samples and came from a buffer of the ring (R106). -/
  blkout_whole : ∀ r ∈ s.blkout, r.samples.length = s.cfg.B ∧ r.index < s.cfg.nbuf
  /-- Only well-formed event words are ever handed to VoiceRenderer (R98, R108). -/
  evout_wf : ∀ evs ∈ s.evout, ∀ ev ∈ evs, eventWf ev = true

/-- A quiescent state: no internal step is enabled and none is waited for (R289). -/
def State.quiescent (s : State) : Bool := decide (s.schSt = .idle)

/-- "Nothing went wrong": no error condition since reset (60_exceptions.md R245). -/
def State.errorFree (s : State) : Bool := decide (s.err = 0)

/-- Run a trace, the core's form of a program (00_scope.md R17): one operation after the other. -/
def runTrace : List Instr → State → Host.Outcome State Fault Refusal
  | [], s => .next s
  | i :: rest, s =>
    match exec i s with
    | .next t => runTrace rest t
    | .fault r => .fault r
    | .refused r => .refused r

/-- An operation of the MIDI byte source (R15). -/
def byteOps : Instr → Bool
  | .mdData _ => true
  | .mdNoteOff _ => true
  | .mdNoteOn _ => true
  | .mdPolyAt _ => true
  | .mdCc _ => true
  | .mdProg _ => true
  | .mdChanAt _ => true
  | .mdPBend _ => true
  | .mdSys _ => true
  | .setOfs _ => false
  | .setGain _ => false
  | .rdStat _ => false
  | .cmdReserved00 _ => false
  | .cmdReserved04 _ _ => false
  | .cmdReserved08 _ _ => false
  | .cmdReserved10 _ _ => false
  | .cmdReserved20 _ _ => false
  | .cmdReserved40 _ _ => false
  | .cmdReserved80 _ _ => false
  | .tick => false
  | .render _ => false
  | .release _ => false
  | .reset => false
  | .delay => false
  | .emit => false

/-- A command word presented by the host on CMD_IN (R15, R99). -/
def commandOps : Instr → Bool
  | .mdData _ => false
  | .mdNoteOff _ => false
  | .mdNoteOn _ => false
  | .mdPolyAt _ => false
  | .mdCc _ => false
  | .mdProg _ => false
  | .mdChanAt _ => false
  | .mdPBend _ => false
  | .mdSys _ => false
  | .setOfs _ => true
  | .setGain _ => true
  | .rdStat _ => true
  | .cmdReserved00 _ => true
  | .cmdReserved04 _ _ => true
  | .cmdReserved08 _ _ => true
  | .cmdReserved10 _ _ => true
  | .cmdReserved20 _ _ => true
  | .cmdReserved40 _ _ => true
  | .cmdReserved80 _ _ => true
  | .tick => false
  | .render _ => false
  | .release _ => false
  | .reset => false
  | .delay => false
  | .emit => false

/-- `cycle*` of 30_encoding.md R110, once for each block of the list: a tick, the rendered block, the two internal steps, and a
sink that releases at once. `k` is the buffer the first cycle uses. -/
def nominalTrace (c : Config) : Nat → List (List Sample) → List Instr
  | _, [] => []
  | k, r :: rs => [.tick, .render r, .delay, .emit, .release k] ++ nominalTrace c ((k + 1) % c.nbuf) rs

/-- The cycles in progress, 0 or 1 (44_blockscheduler.md R211, R213). -/
def cyclesInProgress (s : State) : Nat :=
  match s.schSt with
  | .idle => 0
  | .rendering => 1
  | .delaying => 1
  | .emitting => 1

/-- A counter one up, stopping at 65535 (10_state.md R35), written for claims without the model's `satinc`. -/
def oneMore (n : U16) : U16 := BitVec.ofNat 16 (min (n.toNat + 1) 65535)

/-- `sat16(x + tdiv(g * y, 32768))`, the one sum both formulas of 42_delayline.md R162 take, written for claims without the
model's own arithmetic. -/
def gainSum (g : U16) (x y : Sample) : Int :=
  max (-32768) (min 32767 (x.toInt + Int.tdiv ((g.toNat : Int) * y.toInt) 32768))

/-- The number of `md.st` (10_state.md R26), written for claims. -/
def mdNumber : MdState → Nat
  | .idle => 0
  | .awaitingData1 => 1
  | .awaitingData2 => 2

/-- The number of `sch.st` (10_state.md R33), written for claims. -/
def schNumber : SchState → Nat
  | .idle => 0
  | .rendering => 1
  | .delaying => 2
  | .emitting => 3

/-- The block of `B` zero samples. -/
def zeroBlock (s : State) : List Sample := List.replicate s.cfg.B 0

/-- The state after `n` applications of DL.PROCESS to the zero block (R168). -/
def zeroBlocks : Nat → State → State
  | 0, s => s
  | n + 1, s => zeroBlocks n (dlProcess (zeroBlock s) s).2

end Sys2Proof.Machine
end

