-- ==== Sys2Proof/Certificates/Slice0/Obligations.lean ====
section
/-! DEFINITION. The statements for the provers. Each docstring says what it states; OBLIGATIONS.json has its tier, its basis and
what it cites. -/

open Sys2Proof Sys2Proof.Machine

/-- For every parameter record and every well-formed operation, with every operand at every value, decode of encode is the
operation. [30_encoding.md sections 2, 4 and 5 (R93, R95, R99 to R105)] -/
def Obligations.DecodeOfEncodeIsTheOperation : Prop :=
  ∀ (c : Config) (i : Instr), i.wellFormed c = true → decode c (encode i) = .ok i

/-- For every parameter record and every port word: if it decodes to an operation, that operation is well formed and its
encoding is that very word, so no two words mean one operation. [30_encoding.md sections 2, 4 and 5 (R93, R95, R99 to R105)] -/
def Obligations.DecodedWordIsTheEncoding : Prop :=
  ∀ (c : Config) (w : PortWord) (i : Instr), decode c w = .ok i → encode i = w ∧ i.wellFormed c = true

/-- For each of the 256 byte values: the rows of the opcode table that admit the byte on MIDI_IN are exactly one, the row of the
operation the decoder reads from it. [30_encoding.md section 2 (R92 to R94); 41_mididecoder.md sections 2 to 4] -/
def Obligations.EveryByteIsInExactlyOneClass : Prop :=
  ∀ b : Byte, opcodeRows.filter (fun row => row.admits (.midiIn b)) = [(decodeMidi b).row]

/-- For each 24-bit command word: the rows of the opcode table that admit the word on CMD_IN are exactly one, the row of the
operation the decoder reads from it. [30_encoding.md section 4 (R99 to R103)] -/
def Obligations.EveryCommandWordIsInExactlyOneRow : Prop :=
  ∀ w : CommandWord, opcodeRows.filter (fun row => row.admits (.cmdIn w)) = [(decodeCmd w).row]

/-- The bytes 0x40, 0x83, 0x90, 0xB2, 0xEF and 0xF8, the command words 0x012EE1, 0x024000, 0x03000A, 0x000000, 0x040000 and
0xFF1234, the four strobes and the two STEP codes decode, under the default parameters, to the operations the spec gives
them. [30_encoding.md R93, R100 to R103, R105; 95_test_vectors.md sections 2.2, 2.3, 2.6] -/
def Obligations.WrittenOutWordsDecodeAsTheSpecSays : Prop :=
  decode Config.default (.midiIn 0b01000000#8) = .ok (.mdData 64) ∧
    decode Config.default (.midiIn 0b10000011#8) = .ok (.mdNoteOff 3) ∧
    decode Config.default (.midiIn 0b10010000#8) = .ok (.mdNoteOn 0) ∧
    decode Config.default (.midiIn 0b10110010#8) = .ok (.mdCc 2) ∧
    decode Config.default (.midiIn 0b11101111#8) = .ok (.mdPBend 15) ∧
    decode Config.default (.midiIn 0b11111000#8) = .ok (.mdSys 8) ∧
    decode Config.default (.cmdIn 0x012EE1#24) = .ok (.setOfs 12001) ∧
    decode Config.default (.cmdIn 0x024000#24) = .ok (.setGain 16384) ∧
    decode Config.default (.cmdIn 0x03000A#24) = .ok (.rdStat 10) ∧
    decode Config.default (.cmdIn 0x000000#24) = .ok (.cmdReserved00 0) ∧
    decode Config.default (.cmdIn 0x040000#24) = .ok (.cmdReserved04 0 0) ∧
    decode Config.default (.cmdIn 0xFF1234#24) = .ok (.cmdReserved80 0x7F 0x1234) ∧
    decode Config.default (.tickIn 1#1) = .ok .tick ∧
    decode Config.default (.renderIn 1#1 (List.replicate 48 5#16)) = .ok (.render (List.replicate 48 5#16)) ∧
    decode Config.default (.releaseIn 1#1 5) = .ok (.release 5) ∧
    decode Config.default (.resetIn 1#1) = .ok .reset ∧
    decode Config.default (.step 0b10#2) = .ok .delay ∧
    decode Config.default (.step 0b11#2) = .ok .emit

/-- A strobe at 0 on TICK_IN, RENDER_IN, RELEASE_IN or RESET_IN is rejected as strobeNotAsserted, STEP codes 00 and 01 as
noSuchStep, and an asserted render strobe whose payload is not B samples as blockLength. The names are the model's choice
(log 9). [30_encoding.md R105; 44_blockscheduler.md R203, R212] -/
def Obligations.WordsOfNoOperationAreRejectedByName : Prop :=
  ∀ (c : Config) (r : List Sample) (k : Nat),
    decode c (.tickIn 0#1) = .error .strobeNotAsserted ∧
    decode c (.renderIn 0#1 r) = .error .strobeNotAsserted ∧
    decode c (.releaseIn 0#1 k) = .error .strobeNotAsserted ∧
    decode c (.resetIn 0#1) = .error .strobeNotAsserted ∧
    decode c (.step 0b00#2) = .error .noSuchStep ∧
    decode c (.step 0b01#2) = .error .noSuchStep ∧
    (r.length ≠ c.B → decode c (.renderIn 1#1 r) = .error .blockLength)

/-- When the first pending port word decodes to an operation i, the step is exec of i at the state in which that word is pending
no more. That the pending words stand in State is the model's choice (log 3). [00_scope.md R15, R17; notes/assumptions/3.md] -/
def Obligations.StepRunsTheDecodedOperation : Prop :=
  ∀ (s : State) (w : PortWord) (rest : List PortWord) (i : Instr), s.inbox = w :: rest → decode s.cfg w = .ok i →
    step s = exec i { s with inbox := rest }

/-- With no pending port word: in Delaying the step is exec of DELAY, in Emitting it is exec of EMIT, and in Idle or Rendering
the state stays as it is. That nothing pending means the scheduler's turn is the model's choice (log 4).
[44_blockscheduler.md R205, R207, R213; 70_reset_and_hazards.md R287, R289; notes/assumptions/4.md] -/
def Obligations.StepWithNothingPending : Prop :=
  ∀ s : State, s.inbox = [] →
    (s.schSt = .delaying → step s = exec .delay s) ∧
    (s.schSt = .emitting → step s = exec .emit s) ∧
    (s.schSt = .idle ∨ s.schSt = .rendering → step s = .next s)

/-- When the first pending port word is rejected by the decoder, the step is refused with the decoder's reason. This stop is the
model's choice (log 9). [30_encoding.md R105; notes/assumptions/9.md] -/
def Obligations.StepRefusesAWordOfNoOperation : Prop :=
  ∀ (s : State) (w : PortWord) (rest : List PortWord) (why : Reject), s.inbox = w :: rest →
    decode s.cfg w = .error why → step s = .refused (.rejected why)

/-- For every state and number: the step after placing 8 bits runs the MIDI operation of that byte, after placing 24 bits the
command of that word, and after placing the STEP codes 2 and 3 runs DELAY in Delaying and EMIT in Emitting. The placing is
the model's choice (log 14). [30_encoding.md R92, R99, R105; notes/assumptions/14.md] -/
def Obligations.PlacedTableWordIsTheNextOperation : Prop :=
  ∀ (s : State) (n : Nat),
    step (s.withFetchWord 8 n) = exec (decodeMidi (BitVec.ofNat 8 n)) s ∧
    step (s.withFetchWord 24 n) = exec (decodeCmd (BitVec.ofNat 24 n)) s ∧
    step (s.withFetchWord 2 2) = exec .delay { s with schSt := .delaying } ∧
    step (s.withFetchWord 2 3) = exec .emit { s with schSt := .emitting }

/-- For every parameter record: the pointers and counters are 0, the offset is DOFS_RESET and the gain GAIN_RESET, every element
of buf reads 0, the decoder and the scheduler are Idle, every buffer belongs to the scheduler, ERR and the counters are 0
and the output histories are empty. Nothing is said of the storage of mq and blk, which the table leaves unspecified. [R38] -/
def Obligations.ResetStateIsTheTable : Prop :=
  ∀ c : Config, let s := State.resetOf c
    s.cfg = c ∧ s.wp = 0 ∧ s.dofs.toNat = c.dofsReset ∧ s.gain.toNat = c.gainReset ∧ (∀ a, s.buf.read a = 0) ∧
    s.mdSt = .idle ∧ s.rsv = false ∧ s.rs = 0 ∧ s.d1 = 0 ∧ s.mqHead = 0 ∧ s.mqCnt = 0 ∧ s.cur = 0 ∧
    s.own.length = c.nbuf ∧ s.blk.length = c.nbuf ∧ (∀ k, k < c.nbuf → s.own[k]? = some .sched) ∧ s.schSt = .idle ∧
    s.err = 0 ∧ s.urunCnt = 0 ∧ s.ferrCnt = 0 ∧ s.qovfCnt = 0 ∧ s.evout = [] ∧ s.blkout = [] ∧ s.resp = []

/-- For every parameter record, the state after reset meets I-a to I-m of R37 and the shape and canonical form of the memories.
The canonical form is the model's choice (log 12). [10_state.md section 8 (R37); 10_state.md section 9 (R38);
notes/assumptions/12.md] -/
def Obligations.ResetStateMeetsTheInvariant : Prop :=
  ∀ c : Config, (State.resetOf c).Inv

/-- For every state that meets I-a to I-m of R37, the shape of the ring and of the histories and the canonical form of the
memories: if a step answers a next state, that state meets all of them. The canonical form is the model's choice (log 12).
[10_state.md section 8 (R37); 44_blockscheduler.md R203, R206; 20_memory.md R60, R65; notes/assumptions/12.md] -/
def Obligations.EveryStepKeepsTheInvariant : Prop :=
  ∀ s t : State, s.Inv → step s = .next t → t.Inv

/-- For every parameter record and every trace of operations run from the state after reset: the state it ends in meets I-a to
I-m of R37, with the shape and canonical form of the memories. The canonical form is the model's choice (log 12).
[10_state.md section 8 (R37); notes/assumptions/12.md] -/
def Obligations.EveryReachableStateMeetsTheInvariant : Prop :=
  ∀ (c : Config) (ops : List Instr) (t : State), runTrace ops (State.resetOf c) = .next t → t.Inv

/-- For every state: if a step answers a next state, its parameter record is the one before. [00_scope.md section 3 (R7);
20_memory.md R75] -/
def Obligations.NoStepChangesTheParameters : Prop :=
  ∀ s t : State, step s = .next t → t.cfg = s.cfg

/-- For every state and every well-formed operation other than DELAY outside Delaying and EMIT outside Emitting, exec answers a
next state: no error condition, no state and no operand stops the core. [60_exceptions.md section 1 (R245, R246);
41_mididecoder.md R147; 44_blockscheduler.md R212] -/
def Obligations.NothingStopsTheCore : Prop :=
  ∀ (s : State) (i : Instr), i.wellFormed s.cfg = true → (i = .delay → s.schSt = .delaying) →
    (i = .emit → s.schSt = .emitting) → ∃ t, exec i s = .next t

/-- In every state that is not Delaying, DELAY stops with the fault delayNotEnabled; in every state that is not Emitting, EMIT
stops with the fault emitNotEnabled. The spec says the operation has no step there; the fault names are the model's (log 8).
[00_scope.md R17; 93_implementation_defined.md U18] -/
def Obligations.InternalStepsAreStuckWhereNotEnabled : Prop :=
  ∀ s : State, (s.schSt ≠ .delaying → exec .delay s = .fault .delayNotEnabled) ∧
    (s.schSt ≠ .emitting → exec .emit s = .fault .emitNotEnabled)

/-- Underrun sets bit 0 and bumps URUN_CNT, FramingError sets bit 1 and bumps FERR_CNT, QueueOverflow sets bit 2 and bumps
QOVF_CNT, OffsetOutOfRange sets bit 3 and has no counter; a counter goes one up and stops at 65535; every other field is
unchanged. [R240] -/
def Obligations.RaiseRecordsExactlyItsCondition : Prop :=
  ∀ s : State,
    raise .underrun s = { s with err := s.err ||| 0x0001#16, urunCnt := oneMore s.urunCnt } ∧
    raise .framingError s = { s with err := s.err ||| 0x0002#16, ferrCnt := oneMore s.ferrCnt } ∧
    raise .queueOverflow s = { s with err := s.err ||| 0x0004#16, qovfCnt := oneMore s.qovfCnt } ∧
    raise .offsetOutOfRange s = { s with err := s.err ||| 0x0008#16 }

/-- For every state and operation other than RESET that answers a next state: every flag of ERR set before is set after, and
none of the three counters is smaller. [10_state.md section 6 (R34, R35); 45_hostport.md R233] -/
def Obligations.FlagsAndCountersNeverGoBack : Prop :=
  ∀ (s t : State) (i : Instr), exec i s = .next t → i ≠ .reset →
    s.err &&& t.err = s.err ∧ s.urunCnt.toNat ≤ t.urunCnt.toNat ∧ s.ferrCnt.toNat ≤ t.ferrCnt.toNat ∧
      s.qovfCnt.toNat ≤ t.qovfCnt.toNat

/-- For every status byte from 0x80 to 0xEF: one data byte for 0xC0 to 0xDF and two otherwise; an event for 0x80 to 0x9F and
0xB0 to 0xBF and none otherwise. [R131] -/
def Obligations.MessageTableOfStatusBytes : Prop :=
  ∀ b : Byte, 0x80 ≤ b.toNat → b.toNat ≤ 0xEF →
    dlen b = (if 0xC0 ≤ b.toNat ∧ b.toNat ≤ 0xDF then 1 else 2) ∧
    emits b = decide (b.toNat ≤ 0x9F ∨ (0xB0 ≤ b.toNat ∧ b.toNat ≤ 0xBF))

/-- Each of the seven channel-voice status operations, on every channel and in every state, answers the state with md.st
AwaitingData1, md.rsv 1 and md.rs the status byte, with FramingError recorded exactly when md.st was not Idle; everything
else is unchanged. [R132] -/
def Obligations.ChannelVoiceStatusStartsAMessage : Prop :=
  ∀ (s : State) (chan : BitVec 4),
    ∀ p ∈ [(Instr.mdNoteOff chan, 0x8#4), (.mdNoteOn chan, 0x9#4), (.mdPolyAt chan, 0xA#4), (.mdCc chan, 0xB#4),
        (.mdProg chan, 0xC#4), (.mdChanAt chan, 0xD#4), (.mdPBend chan, 0xE#4)],
      exec p.1 s = .next { s with
        mdSt := .awaitingData1, rsv := true, rs := p.2 ++ chan
        err := if s.mdSt = .idle then s.err else s.err ||| 0x0002#16
        ferrCnt := if s.mdSt = .idle then s.ferrCnt else oneMore s.ferrCnt }

/-- With a message begun, or in Idle under running status, and two data bytes for md.rs: a data byte goes to md.d1 and md.st
becomes AwaitingData2; everything else is unchanged. [R141] -/
def Obligations.FirstDataByteIsKept : Prop :=
  ∀ (s : State) (v : BitVec 7), (s.mdSt = .awaitingData1 ∨ (s.mdSt = .idle ∧ s.rsv = true)) → dlen s.rs = 2 →
    exec (.mdData v) s = .next { s with d1 := v, mdSt := .awaitingData2 }

/-- With a message begun, or in Idle under running status, and one data byte for md.rs: a data byte makes md.st Idle; everything
else is unchanged. [R142] -/
def Obligations.OnlyDataByteCompletesSilently : Prop :=
  ∀ (s : State) (v : BitVec 7), (s.mdSt = .awaitingData1 ∨ (s.mdSt = .idle ∧ s.rsv = true)) → dlen s.rs = 1 →
    exec (.mdData v) s = .next { s with mdSt := .idle }

/-- In AwaitingData2, with the invariant: a data byte makes md.st Idle. If the status is of a kind that emits, the event word
status, first data byte, second data byte is appended to the queue: with room, behind all queued events; on a full queue,
with the oldest event dropped, mq.head moved by one and QueueOverflow recorded. Only the slot written changes in mq. If the
kind emits nothing, only md.st changes. [R143; R191] -/
def Obligations.SecondDataByteQueuesTheEvent : Prop :=
  ∀ (s : State) (v : BitVec 7), s.Inv → s.mdSt = .awaitingData2 → ∃ t, exec (.mdData v) s = .next t ∧
    t = { s with mdSt := .idle, mq := t.mq, mqHead := t.mqHead, mqCnt := t.mqCnt, err := t.err, qovfCnt := t.qovfCnt } ∧
    (emits s.rs = false → t = { s with mdSt := .idle }) ∧
    (emits s.rs = true →
      (∀ a, a ≠ (t.mqHead + (t.mqCnt - 1)) % s.cfg.midiqCap → t.mq.read a = s.mq.read a) ∧
      (s.mqCnt < s.cfg.midiqCap →
        queued t = queued s ++ [s.rs ++ (0#1 ++ s.d1) ++ (0#1 ++ v)] ∧ t.mqHead = s.mqHead ∧ t.mqCnt = s.mqCnt + 1 ∧
          t.err = s.err ∧ t.qovfCnt = s.qovfCnt) ∧
      (s.mqCnt = s.cfg.midiqCap →
        queued t = (queued s).tail ++ [s.rs ++ (0#1 ++ s.d1) ++ (0#1 ++ v)] ∧
          t.mqHead = (s.mqHead + 1) % s.cfg.midiqCap ∧ t.mqCnt = s.mqCnt ∧
          t.err = s.err ||| 0x0004#16 ∧ t.qovfCnt = oneMore s.qovfCnt))

/-- In Idle without running status, a data byte records FramingError and changes nothing else. [R144] -/
def Obligations.StrayDataByteIsAFramingError : Prop :=
  ∀ (s : State) (v : BitVec 7), s.mdSt = .idle → s.rsv = false →
    exec (.mdData v) s = .next { s with err := s.err ||| 0x0002#16, ferrCnt := oneMore s.ferrCnt }

/-- Each of the sixteen system bytes, in every state, makes md.st Idle and md.rsv 0, with FramingError recorded exactly when
md.st was not Idle; everything else is unchanged. [R145] -/
def Obligations.SystemByteForgetsTheMessage : Prop :=
  ∀ (s : State) (low : BitVec 4),
    exec (.mdSys low) s = .next { s with
      mdSt := .idle, rsv := false
      err := if s.mdSt = .idle then s.err else s.err ||| 0x0002#16
      ferrCnt := if s.mdSt = .idle then s.ferrCnt else oneMore s.ferrCnt }

/-- From every state in Idle that meets the invariant, with room for two events: a NoteOff, NoteOn or ControlChange status and
two data bytes append exactly the event of those three bytes; two further data bytes append exactly the event of the same
status with them. ERR and the counters are unchanged, the decoder ends in Idle, and nothing outside the decoder and the
queue changes. [41_mididecoder.md sections 2, 3 and 5 (R133, R134, R136, R140, R146, R148); 95_test_vectors.md E1, MD2] -/
def Obligations.CompleteMessageAndRunningStatusGiveTheirEvents : Prop :=
  ∀ (s : State) (chan : BitVec 4) (a b a' b' : BitVec 7), s.Inv → s.mdSt = .idle → s.mqCnt + 2 ≤ s.cfg.midiqCap →
    ∀ p ∈ [(Instr.mdNoteOff chan, 0x8#4), (.mdNoteOn chan, 0x9#4), (.mdCc chan, 0xB#4)],
      ∃ t u, runTrace [p.1, .mdData a, .mdData b] s = .next t ∧
        queued t = queued s ++ [p.2 ++ chan ++ (0#1 ++ a) ++ (0#1 ++ b)] ∧
        t = { s with rsv := true, rs := p.2 ++ chan, d1 := a, mq := t.mq, mqCnt := s.mqCnt + 1 } ∧
        runTrace [.mdData a', .mdData b'] t = .next u ∧
        queued u = queued t ++ [p.2 ++ chan ++ (0#1 ++ a') ++ (0#1 ++ b')] ∧
        u = { s with rsv := true, rs := p.2 ++ chan, d1 := a', mq := u.mq, mqCnt := s.mqCnt + 2 }

/-- From every state in Idle: a polyphonic pressure or pitch bend status with two data bytes, and a program change or channel
pressure status with one, end in Idle with running status kept, no event and no error, and nothing else changed.
[41_mididecoder.md sections 2 and 3 (R135, R137, R138, R139, R142); 95_test_vectors.md MD6, MD10] -/
def Obligations.MessagesWithoutAVariantAreSilent : Prop :=
  ∀ (s : State) (chan : BitVec 4) (a b : BitVec 7), s.mdSt = .idle →
    runTrace [.mdPolyAt chan, .mdData a, .mdData b] s = .next { s with rsv := true, rs := 0xA#4 ++ chan, d1 := a } ∧
    runTrace [.mdPBend chan, .mdData a, .mdData b] s = .next { s with rsv := true, rs := 0xE#4 ++ chan, d1 := a } ∧
    runTrace [.mdProg chan, .mdData a] s = .next { s with rsv := true, rs := 0xC#4 ++ chan } ∧
    runTrace [.mdChanAt chan, .mdData a] s = .next { s with rsv := true, rs := 0xD#4 ++ chan }

/-- For every state that meets the invariant and every byte: if the queued events change, the byte is a data byte taken in
AwaitingData2 under a status that emits, and the new queue is the old one, or the old one without its oldest event, followed
by that message's event. [41_mididecoder.md section 5 (R147, R148)] -/
def Obligations.NoEventFromAPartialMessage : Prop :=
  ∀ (s t : State) (i : Instr), s.Inv → byteOps i = true → exec i s = .next t → queued t ≠ queued s →
    ∃ v, i = .mdData v ∧ s.mdSt = .awaitingData2 ∧ emits s.rs = true ∧
      (queued t = queued s ++ [s.rs ++ (0#1 ++ s.d1) ++ (0#1 ++ v)] ∨
        queued t = (queued s).tail ++ [s.rs ++ (0#1 ++ s.d1) ++ (0#1 ++ v)])

/-- For every state and every MIDI byte operation, exec answers a next state in which every field but md.st, md.rsv, md.rs,
md.d1, mq, mq.head, mq.cnt, ERR, FERR_CNT and QOVF_CNT is unchanged, and in ERR at most the flags FERR and QOVF are newly
set. [41_mididecoder.md R148; 60_exceptions.md R260, R263] -/
def Obligations.ABytesReachIsTheDecoderTheQueueAndTwoFlags : Prop :=
  ∀ (s : State) (i : Instr), byteOps i = true → ∃ t, exec i s = .next t ∧
    t = { s with
      mdSt := t.mdSt, rsv := t.rsv, rs := t.rs, d1 := t.d1, mq := t.mq, mqHead := t.mqHead, mqCnt := t.mqCnt
      err := t.err, ferrCnt := t.ferrCnt, qovfCnt := t.qovfCnt } ∧
    t.err &&& 0xFFF9#16 = s.err &&& 0xFFF9#16

/-- For every state, every MIDI byte operation i and every j among RENDER, DELAY, EMIT, RELEASE, SETOFS and SETGAIN: running i
then j ends exactly as running j then i, in the same state or with the same stop. TICK, which drains the queue a byte may
fill, is not among them (60_exceptions.md R251 a). [41_mididecoder.md R148, R149; 20_memory.md R72; 60_exceptions.md R263] -/
def Obligations.BytesCommuteWithRenderDelayEmitReleaseSetOfsSetGain : Prop :=
  ∀ (s : State) (i j : Instr), byteOps i = true →
    ((∃ r, j = .render r) ∨ j = .delay ∨ j = .emit ∨ (∃ k, j = .release k) ∨ (∃ n, j = .setOfs n) ∨ (∃ g, j = .setGain g)) →
    runTrace [i, j] s = runTrace [j, i] s

/-- From every state that meets the invariant with an empty queue, for every list of event words pushed in order: the queue
holds the last min(n, MIDIQ_CAP) of them in push order, QOVF_CNT has grown by n - MIDIQ_CAP if that is positive, up to
65535, the flag QOVF of ERR is newly set exactly when n is above MIDIQ_CAP, and nothing else outside the queue changes.
[R192] -/
def Obligations.PushesKeepTheNewestEvents : Prop :=
  ∀ (s : State) (evs : List EventWord), s.Inv → s.mqCnt = 0 →
    let t := evs.foldl (fun u ev => mqPush ev u) s
    queued t = evs.drop (evs.length - s.cfg.midiqCap) ∧
    t.qovfCnt.toNat = min (s.qovfCnt.toNat + (evs.length - s.cfg.midiqCap)) 65535 ∧
    t.err = (if s.cfg.midiqCap < evs.length then s.err ||| 0x0004#16 else s.err) ∧
    t = { s with mq := t.mq, mqHead := t.mqHead, mqCnt := t.mqCnt, err := t.err, qovfCnt := t.qovfCnt }

/-- In Idle with the next buffer owned by the scheduler, TICK appends to EVOUT one record, the mq.cnt queued events, the j-th
being mq[(mq.head + j) mod MIDIQ_CAP]; mq.head moves past them, mq.cnt is 0 and sch.st is Rendering; everything else is
unchanged. [R193; R200] -/
def Obligations.AcceptedTickDrainsTheQueue : Prop :=
  ∀ s : State, s.schSt = .idle → ownerOf s s.cur = .sched → ∃ evs : List EventWord,
    exec .tick s = .next { s with
      evout := s.evout ++ [evs], mqHead := (s.mqHead + s.mqCnt) % s.cfg.midiqCap, mqCnt := 0, schSt := .rendering } ∧
    evs.length = s.mqCnt ∧ ∀ j, j < s.mqCnt → evs[j]? = some (s.mq.read ((s.mqHead + j) % s.cfg.midiqCap))

/-- When sch.st is not Idle, or the next buffer is owned by the sink, TICK records Underrun once; the cycle in progress, the
queue, the delay line and the outputs are unchanged. [R201] -/
def Obligations.DroppedTickOnlyRecordsUnderrun : Prop :=
  ∀ s : State, s.schSt ≠ .idle ∨ ownerOf s s.cur = .sink →
    exec .tick s = .next { s with err := s.err ||| 0x0001#16, urunCnt := oneMore s.urunCnt }

/-- In Rendering, with the invariant, RENDER of B samples answers the state in which blk[sch.cur] holds exactly those samples in
order and sch.st is Delaying; every other buffer and everything else is unchanged. [R203] -/
def Obligations.RenderedBlockFillsTheCurrentBuffer : Prop :=
  ∀ (s : State) (r : List Sample), s.Inv → s.schSt = .rendering → r.length = s.cfg.B → ∃ t, exec (.render r) s = .next t ∧
    t = { s with blk := t.blk, schSt := .delaying } ∧ samplesOf t s.cur = r ∧
    (∀ i, i < s.cfg.B → (blockOf t s.cur).read i = r.getD i 0) ∧ ∀ k, k ≠ s.cur → blockOf t k = blockOf s k

/-- In every state that is not Rendering, RENDER of B samples changes nothing; in every state, a term with another number of
samples, which is no operation, is refused as blockLength (the refusal is the model's choice, log 9). [44_blockscheduler.md
section 1 (R204); 93_implementation_defined.md U17] -/
def Obligations.UnrequestedRenderIsIgnored : Prop :=
  ∀ (s : State) (r : List Sample),
    (r.length = s.cfg.B → s.schSt ≠ .rendering → exec (.render r) s = .next s) ∧
    (r.length ≠ s.cfg.B → exec (.render r) s = .refused (.rejected .blockLength))

/-- In Delaying, with the invariant, DELAY answers a state in which for every i below B: the new sample i of blk[sch.cur] is
sat16(x + tdiv(g*tap, 32768)) for the old sample x and the tap at index wp + i - d modulo Q, taken from buf before the block
when i < d and as written by sample i - d of the same block otherwise; and buf at index wp + i modulo Q is sat16(x +
tdiv(g*y, 32768)) for the new sample y. dl.wp has moved by B modulo Q and sch.st is Emitting. Every other element of buf,
every other block buffer and every other field is unchanged. [R162; R164; R205] -/
def Obligations.DelayBlockFollowsTheTapEquations : Prop :=
  ∀ s : State, s.Inv → s.schSt = .delaying → ∃ t, exec .delay s = .next t ∧
    t = { s with wp := t.wp, buf := t.buf, blk := t.blk, schSt := .emitting } ∧
    t.wp.toNat = (s.wp.toNat + s.cfg.B) % s.cfg.Q ∧
    (∀ i, i < s.cfg.B →
      let x := (blockOf s s.cur).read i
      let ra := (s.wp.toNat + i + (s.cfg.Q - s.dofs.toNat)) % s.cfg.Q
      let tap := if s.dofs.toNat ≤ i then t.buf.read ra else s.buf.read ra
      let y := (blockOf t s.cur).read i
      y.toInt = gainSum s.gain x tap ∧
        (t.buf.read ((s.wp.toNat + i) % s.cfg.Q)).toInt = gainSum s.gain x y) ∧
    (∀ a, (∀ i, i < s.cfg.B → a ≠ (s.wp.toNat + i) % s.cfg.Q) → t.buf.read a = s.buf.read a) ∧
    ∀ k, k ≠ s.cur → blockOf t k = blockOf s k

/-- In Delaying, with the invariant and gain 0, DELAY leaves blk[sch.cur] as it was and for every i below B buf at index wp + i
modulo Q is sample i of that block. [R167] -/
def Obligations.ZeroGainIsAPurePassThrough : Prop :=
  ∀ s : State, s.Inv → s.schSt = .delaying → s.gain = 0 → ∃ t, exec .delay s = .next t ∧
    samplesOf t s.cur = samplesOf s s.cur ∧
    ∀ i, i < s.cfg.B → t.buf.read ((s.wp.toNat + i) % s.cfg.Q) = (blockOf s s.cur).read i

/-- From every state that meets the invariant, after n applications of DL.PROCESS to the zero block with n B at least 32768 Q,
every element of buf is 0, and one application more outputs only zeros and leaves every element 0. [R168] -/
def Obligations.ZeroInputDecaysToSilence : Prop :=
  ∀ (s : State) (n : Nat), s.Inv → 32768 * s.cfg.Q ≤ n * s.cfg.B →
    let t := zeroBlocks n s
    (∀ a, t.buf.read a = 0) ∧ (∀ y ∈ (dlProcess (zeroBlock t) t).1, y = 0) ∧
      ∀ a, (dlProcess (zeroBlock t) t).2.buf.read a = 0

/-- For every gain below 32768 and every sample value x: the product fits a signed 32-bit word; the scaling rounds toward zero,
never grows, is 0 when either factor is 0, is odd in x, and is strictly smaller in magnitude for x not 0; the sum of any
sample and it lies strictly between -65536 and 65536; narrowing saturates; an index lies in [0, Q-1] and differs from its
argument by a multiple of Q; a counter stops at 65535. [R161] -/
def Obligations.GainArithmeticLaws : Prop :=
  (∀ (g : Nat) (x : Int), g < 32768 → -32768 ≤ x → x ≤ 32767 →
      -(2 ^ 31) < (g : Int) * x ∧ (g : Int) * x < 2 ^ 31 ∧ (g ≤ 32112 → |(g : Int) * x| ≤ 32112 * 32768) ∧
      (0 ≤ x → mulg g x = ((g : Int) * x) / 32768) ∧ (x ≤ 0 → mulg g x = -(((g : Int) * -x) / 32768)) ∧
      mulg g 0 = 0 ∧ mulg 0 x = 0 ∧ mulg g (-x) = -mulg g x ∧ |mulg g x| ≤ |x| ∧ (x ≠ 0 → |mulg g x| ≤ |x| - 1) ∧
      ∀ z : Int, -32768 ≤ z → z ≤ 32767 → -65536 < z + mulg g x ∧ z + mulg g x < 65536) ∧
    (∀ v : Int, (32767 < v → sat16 v = 32767) ∧ (v < -32768 → sat16 v = -32768) ∧
      (-32768 ≤ v → v ≤ 32767 → sat16 v = v)) ∧
    (∀ (a : Int) (q : Nat), 0 < q → emod a q < q ∧ (q : Int) ∣ a - emod a q) ∧
    ∀ n : U16, (satinc n).toNat = min (n.toNat + 1) 65535

/-- For wp below Q, i below B, B at most Q and d from 1 to Q-1: the tap index is wp + i - d with Q added when it is negative and
subtracted when it is Q or more, the write index is wp + i with Q subtracted when it is Q or more, and the two sums lie in
the ranges the spec gives. [R14] -/
def Obligations.IndexesNeedOneCorrection : Prop :=
  ∀ q b wp i d : Nat, wp < q → i < b → b ≤ q → 1 ≤ d → d ≤ q - 1 →
    (-((q : Int) - 1) ≤ (wp : Int) + i - d ∧ (wp : Int) + i - d ≤ 2 * q - 2) ∧
    (emod ((wp : Int) + i - d) q : Int) =
      (if (wp : Int) + i - d < 0 then (wp : Int) + i - d + q
        else if (q : Int) ≤ (wp : Int) + i - d then (wp : Int) + i - d - q else (wp : Int) + i - d) ∧
    wp + i ≤ 2 * q - 2 ∧ emod ((wp : Int) + i) q = (if q ≤ wp + i then wp + i - q else wp + i)

/-- In Emitting, with the invariant, EMIT appends to BLKOUT one record, the index sch.cur and the B samples of that buffer in
order; the buffer belongs to the sink, every other owner is as before, sch.cur is one more modulo NBUF and sch.st is Idle;
everything else, all of blk among it, is unchanged. [R207] -/
def Obligations.EmitHandsTheBlockToTheSink : Prop :=
  ∀ s : State, s.Inv → s.schSt = .emitting → ∃ t samples, exec .emit s = .next t ∧
    t = { s with blkout := s.blkout ++ [⟨s.cur, samples⟩], own := t.own, cur := (s.cur + 1) % s.cfg.nbuf, schSt := .idle } ∧
    samples.length = s.cfg.B ∧ (∀ i, i < s.cfg.B → samples[i]? = some ((blockOf s s.cur).read i)) ∧
    t.own.length = s.cfg.nbuf ∧ ∀ k, k < s.cfg.nbuf → ownerOf t k = if k = s.cur then .sink else ownerOf s k

/-- With the invariant: RELEASE k of a buffer the sink holds makes the scheduler its owner, with every other owner and
everything else unchanged; RELEASE k with k at least NBUF, or of a buffer the scheduler owns, changes nothing. [R208; R209] -/
def Obligations.ReleaseGivesBackOnlyWhatTheSinkHolds : Prop :=
  ∀ (s : State) (k : Nat), s.Inv →
    (k < s.cfg.nbuf → ownerOf s k = .sink → ∃ t, exec (.release k) s = .next t ∧ t = { s with own := t.own } ∧
      t.own.length = s.cfg.nbuf ∧ ∀ j, j < s.cfg.nbuf → ownerOf t j = if j = k then .sched else ownerOf s j) ∧
    (s.cfg.nbuf ≤ k ∨ ownerOf s k = .sched → exec (.release k) s = .next s)

/-- For every state and operation that answers a next state: sch.st is unchanged, or the operation is TICK from Idle to
Rendering, RENDER from Rendering to Delaying, DELAY from Delaying to Emitting, EMIT from Emitting to Idle, or RESET to Idle;
and DELAY and EMIT always move it. [44_blockscheduler.md section 2 (R212, R213)] -/
def Obligations.TheSchedulerMovesOnlyAlongItsCycle : Prop :=
  ∀ (s t : State) (i : Instr), exec i s = .next t →
    (t.schSt = s.schSt ∧ i ≠ .delay ∧ i ≠ .emit) ∨
    (i = .tick ∧ s.schSt = .idle ∧ t.schSt = .rendering) ∨
    ((∃ r, i = .render r) ∧ s.schSt = .rendering ∧ t.schSt = .delaying) ∨
    (i = .delay ∧ s.schSt = .delaying ∧ t.schSt = .emitting) ∨
    (i = .emit ∧ s.schSt = .emitting ∧ t.schSt = .idle) ∨ (i = .reset ∧ t.schSt = .idle)

/-- For every operation but RESET that answers a next state: the EVOUT records (one for each accepted tick) minus the BLKOUT
records and the cycles in progress stay the same; and a TICK either adds one EVOUT record and leaves URUN_CNT, or adds none
and URUN_CNT goes one up, stopping at 65535. [44_blockscheduler.md section 2 (R211)] -/
def Obligations.BlocksAndCyclesCountAcceptedTicks : Prop :=
  ∀ (s t : State) (i : Instr), exec i s = .next t → i ≠ .reset →
    t.evout.length + s.blkout.length + cyclesInProgress s = s.evout.length + t.blkout.length + cyclesInProgress t ∧
    (i = .tick → (t.evout.length = s.evout.length + 1 ∧ t.urunCnt = s.urunCnt) ∨
      (t.evout = s.evout ∧ t.urunCnt = oneMore s.urunCnt)) ∧
    (i ≠ .tick → t.evout = s.evout ∧ t.urunCnt = s.urunCnt)

/-- From every state in Idle that meets the invariant with every buffer owned by the scheduler, for every list of N blocks of B
samples: N nominal cycles run to a state in Idle with N further EVOUT records and N further BLKOUT records of B samples
each, the buffers used in ring order, ERR and URUN_CNT unchanged, and every buffer owned by the scheduler again.
[44_blockscheduler.md section 2 (R211); 95_test_vectors.md E5] -/
def Obligations.NominalTicksEmitOneBlockEach : Prop :=
  ∀ (s : State) (rs : List (List Sample)), s.Inv → s.schSt = .idle → (∀ k, k < s.cfg.nbuf → ownerOf s k = .sched) →
    (∀ r ∈ rs, r.length = s.cfg.B) →
    ∃ t fresh, runTrace (nominalTrace s.cfg s.cur rs) s = .next t ∧ t.schSt = .idle ∧ t.blkout = s.blkout ++ fresh ∧
      fresh.length = rs.length ∧ (∀ rec ∈ fresh, rec.samples.length = s.cfg.B) ∧
      (∀ j, j < rs.length → (fresh[j]?).map BlockRecord.index = some ((s.cur + j) % s.cfg.nbuf)) ∧
      t.evout.length = s.evout.length + rs.length ∧ t.err = s.err ∧ t.urunCnt = s.urunCnt ∧
      t.wp.toNat = (s.wp.toNat + rs.length * s.cfg.B) % s.cfg.Q ∧ ∀ k, k < s.cfg.nbuf → ownerOf t k = .sched

/-- From every state in Idle that meets the invariant with gain 0 and every buffer owned by the scheduler, for every list of
blocks of B samples: the BLKOUT records that the nominal cycles add carry exactly those blocks, in order. [42_delayline.md
R167; 44_blockscheduler.md section 2 (R210, R211); 70_reset_and_hazards.md R271] -/
def Obligations.UnconfiguredCorePassesBlocksThrough : Prop :=
  ∀ (s : State) (rs : List (List Sample)), s.Inv → s.schSt = .idle → (∀ k, k < s.cfg.nbuf → ownerOf s k = .sched) →
    s.gain = 0 → (∀ r ∈ rs, r.length = s.cfg.B) →
    ∃ t, runTrace (nominalTrace s.cfg s.cur rs) s = .next t ∧
      t.blkout.map BlockRecord.samples = s.blkout.map BlockRecord.samples ++ rs

/-- In Idle, with the invariant and the next buffer with the sink: RELEASE then TICK starts a cycle and leaves URUN_CNT as it
was; TICK then RELEASE records one Underrun, starts none, and frees the buffer. [60_exceptions.md section 2 (R251 case c);
44_blockscheduler.md R200, R201, R208] -/
def Obligations.ReleaseBeforeOrAfterTheTickDecidesIt : Prop :=
  ∀ s : State, s.Inv → s.schSt = .idle → ownerOf s s.cur = .sink →
    (∃ t, runTrace [.release s.cur, .tick] s = .next t ∧ t.schSt = .rendering ∧ t.urunCnt = s.urunCnt ∧ t.err = s.err ∧
      ownerOf t s.cur = .sched) ∧
    (∃ u, runTrace [.tick, .release s.cur] s = .next u ∧ u.schSt = .idle ∧ u.urunCnt = oneMore s.urunCnt ∧
      u.err = s.err ||| 0x0001#16 ∧ u.evout = s.evout ∧ ownerOf u s.cur = .sched)

/-- In every state: for n at most Q the offset becomes n brought into [1, Q-1], so 0 gives 1 and Q gives Q-1, and the response
is err 0 with it; for n above Q the offset is kept, ERR.ORNG is set and the response is err 1 with the kept offset;
everything else, buf and dl.wp among it, is unchanged. [R171; R244] -/
def Obligations.SetOfsClampsOrRefuses : Prop :=
  ∀ (s : State) (n : U16),
    (n.toNat ≤ s.cfg.Q → let held := BitVec.ofNat 16 (max 1 (min n.toNat (s.cfg.Q - 1)))
      exec (.setOfs n) s = .next { s with dofs := held, resp := s.resp ++ [0#1 ++ held] }) ∧
    (s.cfg.Q < n.toNat →
      exec (.setOfs n) s = .next { s with err := s.err ||| 0x0008#16, resp := s.resp ++ [1#1 ++ s.dofs] })

/-- In every state: the gain becomes the smaller of g and GAIN_MAX and the response is err 0 with it; everything else is
unchanged. [R173] -/
def Obligations.SetGainClamps : Prop :=
  ∀ (s : State) (g : U16), let held := BitVec.ofNat 16 (min g.toNat s.cfg.gainMax)
    exec (.setGain g) s = .next { s with gain := held, resp := s.resp ++ [0#1 ++ held] }

/-- In every state that meets the invariant: RDSTAT 0 to 8 answer err 0 with ERR, the three counters, the offset, the gain, the
write pointer, the read pointer wp - dofs modulo Q, and md.st in bits 3:2 with sch.st in bits 1:0; RDSTAT 9 answers err 0
with the queue count when it fits 16 bits (and with a free value otherwise, log 10); every number from 10 on answers err 1
with 0; nothing else changes. [R230; R231; R232] -/
def Obligations.RdStatAnswersTheViews : Prop :=
  ∀ s : State, s.Inv →
    (∀ p ∈ [(0, s.err), (1, s.urunCnt), (2, s.ferrCnt), (3, s.qovfCnt), (4, s.dofs), (5, s.gain), (6, s.wp),
        (7, BitVec.ofNat 16 ((s.wp.toNat + (s.cfg.Q - s.dofs.toNat)) % s.cfg.Q)),
        (8, BitVec.ofNat 16 (4 * mdNumber s.mdSt + schNumber s.schSt))],
      exec (.rdStat (BitVec.ofNat 16 p.1)) s = .next { s with resp := s.resp ++ [0#1 ++ p.2] }) ∧
    (s.mqCnt < 65536 → exec (.rdStat 9) s = .next { s with resp := s.resp ++ [0#1 ++ BitVec.ofNat 16 s.mqCnt] }) ∧
    (∃ data : U16, exec (.rdStat 9) s = .next { s with resp := s.resp ++ [0#1 ++ data] }) ∧
    ∀ r : U16, 10 ≤ r.toNat → exec (.rdStat r) s = .next { s with resp := s.resp ++ [0x10000#17] }

/-- Each of the seven reserved command operations, with every operand and in every state, puts the response 0x10000 and changes
nothing else. [R234] -/
def Obligations.ReservedCommandsAnswerAnError : Prop :=
  ∀ (s : State) (arg : U16) (o2 : BitVec 2) (o3 : BitVec 3) (o4 : BitVec 4) (o5 : BitVec 5) (o6 : BitVec 6) (o7 : BitVec 7),
    ∀ i ∈ [Instr.cmdReserved00 arg, .cmdReserved04 o2 arg, .cmdReserved08 o3 arg, .cmdReserved10 o4 arg,
        .cmdReserved20 o5 arg, .cmdReserved40 o6 arg, .cmdReserved80 o7 arg],
      exec i s = .next { s with resp := s.resp ++ [0x10000#17] }

/-- For every state whose next pending word is a command word: the step answers a next state with exactly one further response
word and sch.st, md.st as before. And for every operation that is no host command, a next state has the same responses. That
the words still pending stand in State is the model's choice (log 3), and so is that RESET keeps the response history, where
R236 allows an empty one as well (log 5). [00_scope.md R16; 30_encoding.md section 4 (R99, R104); 45_hostport.md R235, R236;
notes/assumptions/3.md; notes/assumptions/5.md] -/
def Obligations.EveryCommandWordIsAnsweredAtOnce : Prop :=
  (∀ (s : State) (w : CommandWord) (rest : List PortWord), s.inbox = .cmdIn w :: rest →
      ∃ t p, step s = .next t ∧ t.resp = s.resp ++ [p] ∧ t.schSt = s.schSt ∧ t.mdSt = s.mdSt ∧ t.inbox = rest) ∧
    ∀ (s t : State) (i : Instr), commandOps i = false → exec i s = .next t → t.resp = s.resp

/-- For every state and host command that answers a next state: every field but dl.dofs, dl.gain, ERR and the responses is
unchanged; the offset changes only by a SETOFS, the gain only by a SETGAIN, and ERR only by ORNG being set in a refused
SETOFS. [45_hostport.md R233] -/
def Obligations.HostCommandsChangeOnlyOffsetGainAndOneFlag : Prop :=
  ∀ (s t : State) (i : Instr), commandOps i = true → exec i s = .next t →
    t = { s with dofs := t.dofs, gain := t.gain, err := t.err, resp := t.resp } ∧
    (t.dofs ≠ s.dofs → ∃ n, i = .setOfs n) ∧ (t.gain ≠ s.gain → ∃ g, i = .setGain g) ∧
    (t.err ≠ s.err → t.err = s.err ||| 0x0008#16 ∧ ∃ n, i = .setOfs n ∧ s.cfg.Q < n.toNat)

/-- In every state: RESET answers the state with every register at its reset value under the same parameter record, every
element of buf 0, every buffer owned by the scheduler, no response word and no error condition; the output histories are as
before, which is the reading of R236 that the model takes (log 5), and so are the words still pending, which are the model's
own (log 3). Nothing is said of the storage of mq and blk but its shape. [45_hostport.md R236; 10_state.md section 9 (R38);
notes/assumptions/3.md; notes/assumptions/5.md] -/
def Obligations.ResetRestoresTheTableInAnyState : Prop :=
  ∀ s : State, ∃ t, exec .reset s = .next t ∧
    t = { cfg := s.cfg, wp := 0, dofs := BitVec.ofNat 16 s.cfg.dofsReset, gain := BitVec.ofNat 16 s.cfg.gainReset, buf := t.buf
          mdSt := .idle, rsv := false, rs := 0, d1 := 0, mq := t.mq, mqHead := 0, mqCnt := 0, blk := t.blk, own := t.own
          cur := 0, schSt := .idle, err := 0, urunCnt := 0, ferrCnt := 0, qovfCnt := 0
          evout := s.evout, blkout := s.blkout, resp := s.resp, inbox := s.inbox } ∧
    (∀ a, t.buf.read a = 0) ∧ t.blk.length = s.cfg.nbuf ∧ t.own.length = s.cfg.nbuf ∧
    ∀ k, k < s.cfg.nbuf → ownerOf t k = .sched

/-- For every state and operation other than RESET that answers a next state: dl.wp and buf change only by DELAY, dl.dofs only
by SETOFS, dl.gain only by SETGAIN, the decoder's registers only by a byte, mq storage only by a byte and its cursors only
by a byte or TICK, blk only by RENDER or DELAY, own only by EMIT or RELEASE, sch.cur and BLKOUT only by EMIT, sch.st only by
TICK, RENDER, DELAY or EMIT, ERR only by a byte, TICK or SETOFS, EVOUT and URUN_CNT only by TICK, FERR_CNT and QOVF_CNT only
by a byte, RESP only by a command; the parameter record never changes. [10_state.md sections 2 to 6 (R21 to R23, R25 to
R35); 20_memory.md R60, R71; 60_exceptions.md R260] -/
def Obligations.EachRegisterIsWrittenOnlyByItsOperations : Prop :=
  ∀ (s t : State) (i : Instr), exec i s = .next t → i ≠ .reset →
    (t.wp ≠ s.wp ∨ t.buf ≠ s.buf → i = .delay) ∧
    (t.dofs ≠ s.dofs → ∃ n, i = .setOfs n) ∧
    (t.gain ≠ s.gain → ∃ g, i = .setGain g) ∧
    (t.mdSt ≠ s.mdSt ∨ t.rsv ≠ s.rsv ∨ t.rs ≠ s.rs ∨ t.d1 ≠ s.d1 → byteOps i = true) ∧
    (t.mq ≠ s.mq → byteOps i = true) ∧
    (t.mqHead ≠ s.mqHead ∨ t.mqCnt ≠ s.mqCnt → byteOps i = true ∨ i = .tick) ∧
    (t.blk ≠ s.blk → i = .delay ∨ ∃ r, i = .render r) ∧
    (t.own ≠ s.own → i = .emit ∨ ∃ k, i = .release k) ∧
    (t.cur ≠ s.cur ∨ t.blkout ≠ s.blkout → i = .emit) ∧
    (t.schSt ≠ s.schSt → i = .tick ∨ (∃ r, i = .render r) ∨ i = .delay ∨ i = .emit) ∧
    (t.err ≠ s.err → byteOps i = true ∨ i = .tick ∨ ∃ n, i = .setOfs n) ∧
    (t.evout ≠ s.evout ∨ t.urunCnt ≠ s.urunCnt → i = .tick) ∧
    (t.ferrCnt ≠ s.ferrCnt ∨ t.qovfCnt ≠ s.qovfCnt → byteOps i = true) ∧
    (t.resp ≠ s.resp → commandOps i = true) ∧ t.cfg = s.cfg

/-- For every element width and two memories in canonical form: if they read the same at every index they are the same list, so
equal memories are equal data. The form is the model's choice (log 12). [20_memory.md section 1 (R60);
notes/assumptions/12.md] -/
def Obligations.CanonicalMemoriesAreTheirReads : Prop :=
  ∀ (w : Nat) (m m' : Memory w), m.wf = true → m'.wf = true → (∀ a, m.read a = m'.read a) → m = m'

/-- A record given only its Q has DOFS_RESET Q - 1; the default record has the table's defaults; a record is accepted exactly
when it meets every constraint of the table. State.reset is the reset state under the default record, which is the model's
choice (log 2). [00_scope.md section 3 (R7, R8); 70_reset_and_hazards.md R273; notes/assumptions/1.md;
notes/assumptions/2.md] -/
def Obligations.ParameterRecordsAreTheSpecsTable : Prop :=
  (∀ q : Nat, ({ Q := q } : Params).dofsReset = q - 1) ∧
    Config.default.toParams = { B := 48, Q := 12000, midiqCap := 16, nbuf := 2, gainMax := 32112, dofsReset := 11999
                                gainReset := 0, sampleRate := 48000, serialBaudrate := 115200 } ∧
    (∀ p : Params, p.ok = true ↔ 1 ≤ p.B ∧ p.B ≤ p.Q ∧ 2 ≤ p.Q ∧ p.Q ≤ 65534 ∧ 1 ≤ p.midiqCap ∧ 1 ≤ p.nbuf ∧
      p.gainMax < 2 ^ 15 ∧ 1 ≤ p.dofsReset ∧ p.dofsReset ≤ p.Q - 1 ∧ p.gainReset ≤ p.gainMax ∧ 0 < p.sampleRate) ∧
    State.reset = State.resetOf Config.default ∧ State.reset.dofs = 11999
end

