-- ==== Sys2Proof/Laws/Arith.lean ====
section
/-! SUPPORT. The small facts about `emod`, `sat16` and `satinc` that index, sample and counter proofs cite. -/

namespace Sys2Proof.Machine

theorem emod_lt (a : Int) {n : Nat} (hn : 0 < n) : emod a n < n := by
  have h1 := Int.emod_lt_of_pos a (b := (n : Int)) (by omega)
  have h0 := Int.emod_nonneg a (b := (n : Int)) (by omega)
  unfold emod
  omega

theorem emod_natCast (a n : Nat) : emod (a : Int) n = a % n := by
  unfold emod
  rw [← Int.natCast_emod, Int.toNat_natCast]

theorem emod_of_lt {a n : Nat} (h : a < n) : emod (a : Int) n = a := by
  rw [emod_natCast, Nat.mod_eq_of_lt h]

/-- A sum of two naturals: the form in which the model's write and queue indexes are built. -/
theorem emod_add (a b n : Nat) : emod ((a : Int) + b) n = (a + b) % n := by
  rw [← Int.natCast_add, emod_natCast]

/-- The remainder after a multiple of the modulus is added is the same. -/
theorem emod_add_modulus (a : Int) (n : Nat) : emod (a + n) n = emod a n := by
  simp [emod]

theorem sat16_bounds (v : Int) : -32768 ≤ sat16 v ∧ sat16 v ≤ 32767 := by
  unfold sat16 clamp
  split_ifs <;> omega

theorem sat16_of_mem {v : Int} (h : -32768 ≤ v ∧ v ≤ 32767) : sat16 v = v := by
  unfold sat16 clamp
  split_ifs <;> omega

theorem sample_bounds (x : Sample) : -32768 ≤ x.toInt ∧ x.toInt ≤ 32767 := by
  have h1 := BitVec.le_toInt x
  have h2 := BitVec.toInt_lt (x := x)
  norm_num at h1 h2
  omega

/-- A value within s16 comes back from its sample. -/
theorem toInt_toSample {v : Int} (h : -32768 ≤ v ∧ v ≤ 32767) : (toSample v).toInt = v := by
  unfold toSample
  rw [BitVec.toInt_ofInt, Int.bmod_def]
  omega

@[simp] theorem toSample_toInt (x : Sample) : toSample x.toInt = x := by
  simp [toSample]

theorem satinc_toNat (n : U16) : (satinc n).toNat = min (n.toNat + 1) 65535 := by
  have hn := n.isLt
  unfold satinc
  split_ifs with h
  · rw [BitVec.toNat_add]
    simp
    omega
  · simp
    omega

theorem satinc_pos (n : U16) : 0 < (satinc n).toNat := by
  rw [satinc_toNat]
  omega

end Sys2Proof.Machine
end

