-- ==== Sys2Proof/Laws/Config.lean ====
section
/-! SUPPORT. The constraints of 00_scope.md R8, read off a parameter record. -/

namespace Sys2Proof

theorem Config.constraints (c : Config) :
    1 ≤ c.B ∧ c.B ≤ c.Q ∧ 2 ≤ c.Q ∧ c.Q ≤ 65534 ∧ 1 ≤ c.midiqCap ∧ 1 ≤ c.nbuf ∧ c.gainMax < 32768 ∧
      1 ≤ c.dofsReset ∧ c.dofsReset ≤ c.Q - 1 ∧ c.gainReset ≤ c.gainMax ∧ 0 < c.sampleRate := by
  have h := c.ok
  simp only [Params.ok, Bool.and_eq_true, decide_eq_true_eq] at h
  tauto

theorem Config.B_pos (c : Config) : 0 < c.B := c.constraints.1

theorem Config.B_le_Q (c : Config) : c.B ≤ c.Q := c.constraints.2.1

theorem Config.two_le_Q (c : Config) : 2 ≤ c.Q := c.constraints.2.2.1

theorem Config.Q_lt (c : Config) : c.Q < 65535 := by have := c.constraints; omega

theorem Config.midiqCap_pos (c : Config) : 0 < c.midiqCap := by have := c.constraints; omega

theorem Config.nbuf_pos (c : Config) : 0 < c.nbuf := by have := c.constraints; omega

theorem Config.gainMax_lt (c : Config) : c.gainMax < 32768 := by have := c.constraints; omega

end Sys2Proof
end

