-- ==== Sys2Proof/Laws/Decode.lean ====
section
/-! SUPPORT. The fields of an assembled word, and a command word's row bits. -/

namespace Sys2Proof

@[simp] theorem opField_append (op : BitVec 8) (arg : U16) : opField (op ++ arg) = op := by
  apply BitVec.eq_of_getLsbD_eq
  intro i hi
  rw [opField, BitVec.getLsbD_extractLsb', BitVec.getLsbD_append]
  simp [hi]

@[simp] theorem argField_append (op : BitVec 8) (arg : U16) : argField (op ++ arg) = arg := by
  apply BitVec.eq_of_getLsbD_eq
  intro i hi
  rw [argField, BitVec.getLsbD_extractLsb', BitVec.getLsbD_append]
  simp [hi]

/-- A command word is put together again from its two fields (30_encoding.md R99). -/
theorem opField_append_argField (c : CommandWord) : (opField c ++ argField c : BitVec 24) = c := by
  apply BitVec.eq_of_getLsbD_eq
  intro i hi
  rw [BitVec.getLsbD_append]
  by_cases h : i < 16
  · simp [argField, h]
  · simp [opField, h, show i - 16 < 8 by omega, show 16 + (i - 16) = i by omega]

/-- The bits of a command word under a mask of `op` bits alone are those bits of `op`. -/
theorem commandBits_and (op : BitVec 8) (arg : U16) (mask : Nat) :
    (op ++ arg : BitVec 24).toNat &&& (mask <<< 16) = (op.toNat &&& mask) <<< 16 := by
  apply Nat.eq_of_testBit_eq
  intro i
  rw [Nat.testBit_and, BitVec.testBit_toNat, BitVec.getLsbD_append, Nat.testBit_shiftLeft, Nat.testBit_shiftLeft,
    Nat.testBit_and, BitVec.testBit_toNat]
  by_cases h : i < 16
  · simp [h, show ¬ 16 ≤ i by omega]
  · simp [h, show 16 ≤ i by omega]

end Sys2Proof
end

