-- ==== Sys2Proof/Laws/Memory.lean ====
section
/-! SUPPORT. Element-indexed memory: read after write, and that every memory operation keeps the canonical form and the range. -/

namespace Sys2Proof.Machine

variable {w : Nat}

@[simp] theorem Memory.read_nil (a : Nat) : Memory.read ([] : Memory w) a = 0 := rfl

/-- An index below every listed one reads as unlisted. -/
theorem Memory.read_of_all_lt {m : Memory w} {a : Nat} (h : m.all (fun cell => decide (a < cell.1)) = true) :
    m.read a = 0#w := by
  induction m with
  | nil => rfl
  | cons cell m ih =>
    obtain ⟨b, u⟩ := cell
    simp only [List.all_cons, Bool.and_eq_true, decide_eq_true_eq] at h
    rw [Memory.read, if_neg (by omega), ih h.2]

/-- An index at or below every listed one is still below them. -/
theorem Memory.all_lt_of_le {m : Memory w} {a c : Nat} (hall : m.all (fun cell => decide (c < cell.1)) = true)
    (h : a ≤ c) : m.all (fun cell => decide (a < cell.1)) = true := by
  rw [List.all_eq_true] at hall ⊢
  exact fun x hx => decide_eq_true (lt_of_le_of_lt h (of_decide_eq_true (hall x hx)))

/-- What one write does to every later read, in a memory of the canonical form. -/
theorem Memory.read_write {m : Memory w} (hm : m.wf = true) (a b : Nat) (v : BitVec w) :
    (m.write a v).read b = if b = a then v else m.read b := by
  induction m with
  | nil =>
    by_cases hv : v = 0#w <;> by_cases hb : b = a <;> simp [Memory.write, Memory.read, hv, hb]
  | cons cell m ih =>
    obtain ⟨c, u⟩ := cell
    simp only [Memory.wf, Bool.and_eq_true, decide_eq_true_eq] at hm
    obtain ⟨⟨-, hall⟩, hwf⟩ := hm
    have hbelow : ∀ {x : Nat}, x ≤ c → Memory.read m x = 0#w := fun h =>
      Memory.read_of_all_lt (Memory.all_lt_of_le hall h)
    simp only [Memory.write]
    by_cases hac : a < c
    · rw [if_pos hac]
      by_cases hv : v = 0#w
      · rw [if_pos hv]
        by_cases hb : b = a
        · subst hb
          rw [if_pos rfl, Memory.read, if_neg (by omega), hbelow (by omega), hv]
        · rw [if_neg hb]
      · rw [if_neg hv, Memory.read]
    · rw [if_neg hac]
      by_cases hac' : a = c
      · subst hac'
        rw [if_pos rfl]
        by_cases hv : v = 0#w <;> by_cases hb : b = a <;> simp [Memory.read, hv, hb, hbelow]
      · rw [if_neg hac', Memory.read, Memory.read, ih hwf]
        by_cases hb : b = c
        · rw [if_pos hb, if_neg (by omega), if_pos hb]
        · rw [if_neg hb, if_neg hb]

theorem Memory.all_write {m : Memory w} {p : Nat × BitVec w → Bool} {a : Nat} {v : BitVec w} (hm : m.all p = true)
    (hp : v ≠ 0#w → p (a, v) = true) : (m.write a v).all p = true := by
  induction m with
  | nil => by_cases hv : v = 0#w <;> simp [Memory.write, hv, hp]
  | cons cell m ih =>
    obtain ⟨c, u⟩ := cell
    simp only [List.all_cons, Bool.and_eq_true] at hm
    simp only [Memory.write]
    split_ifs with h1 h2 h3 h4 <;> simp_all

/-- A write keeps the canonical form. -/
theorem Memory.write_wf {m : Memory w} (hm : m.wf = true) (a : Nat) (v : BitVec w) : (m.write a v).wf = true := by
  induction m with
  | nil => by_cases hv : v = 0#w <;> simp [Memory.write, Memory.wf, hv]
  | cons cell m ih =>
    obtain ⟨c, u⟩ := cell
    simp only [Memory.wf, Bool.and_eq_true, decide_eq_true_eq] at hm
    obtain ⟨⟨hu, hall⟩, hwf⟩ := hm
    simp only [Memory.write]
    split_ifs with h1 h2 h3 h4
    · simp [Memory.wf, hu, hall, hwf]
    · have hlt := Memory.all_lt_of_le hall (Nat.le_of_lt h1)
      simp [Memory.wf, h2, hu, hall, hwf, h1, hlt]
    · exact hwf
    · simp [Memory.wf, h4, hwf, h3, hall]
    · simp only [Memory.wf, Bool.and_eq_true, decide_eq_true_eq]
      exact ⟨⟨hu, Memory.all_write hall fun _ => decide_eq_true (by omega)⟩, ih hwf⟩

/-- A write below `n` keeps every listed index below `n`. -/
theorem Memory.write_within {m : Memory w} {n : Nat} (hm : m.within n = true) {a : Nat} (ha : a < n) (v : BitVec w) :
    (m.write a v).within n = true :=
  Memory.all_write hm fun _ => decide_eq_true ha

/-- An index at or above the range reads 0. -/
theorem Memory.read_of_within {m : Memory w} {n : Nat} (hm : m.within n = true) {a : Nat} (ha : n ≤ a) : m.read a = 0#w := by
  induction m with
  | nil => rfl
  | cons cell m ih =>
    obtain ⟨b, u⟩ := cell
    simp only [Memory.within, List.all_cons, Bool.and_eq_true, decide_eq_true_eq] at hm
    rw [Memory.read, if_neg (by omega), ih hm.2]

@[simp] theorem Memory.readBlock_length (m : Memory w) (n : Nat) : (m.readBlock n).length = n := by
  simp [Memory.readBlock]

theorem Memory.readBlock_getElem (m : Memory w) (n i : Nat) (h : i < (m.readBlock n).length) :
    (m.readBlock n)[i] = m.read i := by
  simp [Memory.readBlock]

theorem Memory.writeFrom_wf {m : Memory w} (hm : m.wf = true) (i : Nat) (vs : List (BitVec w)) :
    (m.writeFrom i vs).wf = true := by
  induction vs generalizing m i with
  | nil => exact hm
  | cons v vs ih => exact ih (Memory.write_wf hm i v) (i + 1)

theorem Memory.writeFrom_within {m : Memory w} {n : Nat} (hm : m.within n = true) (i : Nat) (vs : List (BitVec w))
    (h : i + vs.length ≤ n) : (m.writeFrom i vs).within n = true := by
  induction vs generalizing m i with
  | nil => exact hm
  | cons v vs ih =>
    simp only [List.length_cons] at h
    exact ih (Memory.write_within hm (by omega) v) (i + 1) (by omega)

/-- What writing a list does to every later read. -/
theorem Memory.read_writeFrom {m : Memory w} (hm : m.wf = true) (i : Nat) (vs : List (BitVec w)) (a : Nat) :
    (m.writeFrom i vs).read a = if i ≤ a ∧ a < i + vs.length then vs.getD (a - i) 0#w else m.read a := by
  induction vs generalizing m i with
  | nil => rw [Memory.writeFrom, if_neg (by simp)]
  | cons v vs ih =>
    rw [Memory.writeFrom, ih (Memory.write_wf hm i v) (i + 1), Memory.read_write hm]
    simp only [List.length_cons]
    by_cases hai : a = i
    · subst hai
      simp
    · by_cases hin : i + 1 ≤ a ∧ a < i + 1 + vs.length
      · have hsub : a - i = (a - (i + 1)) + 1 := by omega
        rw [if_pos hin, if_pos (by omega), hsub, List.getD_cons_succ]
      · rw [if_neg hin, if_neg hai, if_neg (by omega)]

/-- A whole block written from index 0 is read back. -/
theorem Memory.readBlock_writeFrom {m : Memory w} (hm : m.wf = true) (vs : List (BitVec w)) :
    (m.writeFrom 0 vs).readBlock vs.length = vs := by
  apply List.ext_getElem (by simp)
  intro i h1 h2
  rw [Memory.readBlock_getElem, Memory.read_writeFrom hm, if_pos (by omega)]
  simp [h2]

end Sys2Proof.Machine
end

