-- ==== Sys2Proof/Laws/State.lean ====
section
/-! SUPPORT. One lemma per field per register write, so that no later proof unfolds a record update. -/

namespace Sys2Proof.Machine

variable (s : State)

@[simp] theorem State.setDelayLine_cfg (wp : U16) (buf : Memory 16) :
    (s.setDelayLine wp buf).cfg = s.cfg := rfl
@[simp] theorem State.setDelayLine_wp (wp : U16) (buf : Memory 16) :
    (s.setDelayLine wp buf).wp = wp := rfl
@[simp] theorem State.setDelayLine_dofs (wp : U16) (buf : Memory 16) :
    (s.setDelayLine wp buf).dofs = s.dofs := rfl
@[simp] theorem State.setDelayLine_gain (wp : U16) (buf : Memory 16) :
    (s.setDelayLine wp buf).gain = s.gain := rfl
@[simp] theorem State.setDelayLine_buf (wp : U16) (buf : Memory 16) :
    (s.setDelayLine wp buf).buf = buf := rfl
@[simp] theorem State.setDelayLine_mdSt (wp : U16) (buf : Memory 16) :
    (s.setDelayLine wp buf).mdSt = s.mdSt := rfl
@[simp] theorem State.setDelayLine_rsv (wp : U16) (buf : Memory 16) :
    (s.setDelayLine wp buf).rsv = s.rsv := rfl
@[simp] theorem State.setDelayLine_rs (wp : U16) (buf : Memory 16) :
    (s.setDelayLine wp buf).rs = s.rs := rfl
@[simp] theorem State.setDelayLine_d1 (wp : U16) (buf : Memory 16) :
    (s.setDelayLine wp buf).d1 = s.d1 := rfl
@[simp] theorem State.setDelayLine_mq (wp : U16) (buf : Memory 16) :
    (s.setDelayLine wp buf).mq = s.mq := rfl
@[simp] theorem State.setDelayLine_mqHead (wp : U16) (buf : Memory 16) :
    (s.setDelayLine wp buf).mqHead = s.mqHead := rfl
@[simp] theorem State.setDelayLine_mqCnt (wp : U16) (buf : Memory 16) :
    (s.setDelayLine wp buf).mqCnt = s.mqCnt := rfl
@[simp] theorem State.setDelayLine_blk (wp : U16) (buf : Memory 16) :
    (s.setDelayLine wp buf).blk = s.blk := rfl
@[simp] theorem State.setDelayLine_own (wp : U16) (buf : Memory 16) :
    (s.setDelayLine wp buf).own = s.own := rfl
@[simp] theorem State.setDelayLine_cur (wp : U16) (buf : Memory 16) :
    (s.setDelayLine wp buf).cur = s.cur := rfl
@[simp] theorem State.setDelayLine_schSt (wp : U16) (buf : Memory 16) :
    (s.setDelayLine wp buf).schSt = s.schSt := rfl
@[simp] theorem State.setDelayLine_err (wp : U16) (buf : Memory 16) :
    (s.setDelayLine wp buf).err = s.err := rfl
@[simp] theorem State.setDelayLine_urunCnt (wp : U16) (buf : Memory 16) :
    (s.setDelayLine wp buf).urunCnt = s.urunCnt := rfl
@[simp] theorem State.setDelayLine_ferrCnt (wp : U16) (buf : Memory 16) :
    (s.setDelayLine wp buf).ferrCnt = s.ferrCnt := rfl
@[simp] theorem State.setDelayLine_qovfCnt (wp : U16) (buf : Memory 16) :
    (s.setDelayLine wp buf).qovfCnt = s.qovfCnt := rfl
@[simp] theorem State.setDelayLine_evout (wp : U16) (buf : Memory 16) :
    (s.setDelayLine wp buf).evout = s.evout := rfl
@[simp] theorem State.setDelayLine_blkout (wp : U16) (buf : Memory 16) :
    (s.setDelayLine wp buf).blkout = s.blkout := rfl
@[simp] theorem State.setDelayLine_resp (wp : U16) (buf : Memory 16) :
    (s.setDelayLine wp buf).resp = s.resp := rfl
@[simp] theorem State.setDelayLine_inbox (wp : U16) (buf : Memory 16) :
    (s.setDelayLine wp buf).inbox = s.inbox := rfl

@[simp] theorem State.setDofs_cfg (v : U16) :
    (s.setDofs v).cfg = s.cfg := rfl
@[simp] theorem State.setDofs_wp (v : U16) :
    (s.setDofs v).wp = s.wp := rfl
@[simp] theorem State.setDofs_dofs (v : U16) :
    (s.setDofs v).dofs = v := rfl
@[simp] theorem State.setDofs_gain (v : U16) :
    (s.setDofs v).gain = s.gain := rfl
@[simp] theorem State.setDofs_buf (v : U16) :
    (s.setDofs v).buf = s.buf := rfl
@[simp] theorem State.setDofs_mdSt (v : U16) :
    (s.setDofs v).mdSt = s.mdSt := rfl
@[simp] theorem State.setDofs_rsv (v : U16) :
    (s.setDofs v).rsv = s.rsv := rfl
@[simp] theorem State.setDofs_rs (v : U16) :
    (s.setDofs v).rs = s.rs := rfl
@[simp] theorem State.setDofs_d1 (v : U16) :
    (s.setDofs v).d1 = s.d1 := rfl
@[simp] theorem State.setDofs_mq (v : U16) :
    (s.setDofs v).mq = s.mq := rfl
@[simp] theorem State.setDofs_mqHead (v : U16) :
    (s.setDofs v).mqHead = s.mqHead := rfl
@[simp] theorem State.setDofs_mqCnt (v : U16) :
    (s.setDofs v).mqCnt = s.mqCnt := rfl
@[simp] theorem State.setDofs_blk (v : U16) :
    (s.setDofs v).blk = s.blk := rfl
@[simp] theorem State.setDofs_own (v : U16) :
    (s.setDofs v).own = s.own := rfl
@[simp] theorem State.setDofs_cur (v : U16) :
    (s.setDofs v).cur = s.cur := rfl
@[simp] theorem State.setDofs_schSt (v : U16) :
    (s.setDofs v).schSt = s.schSt := rfl
@[simp] theorem State.setDofs_err (v : U16) :
    (s.setDofs v).err = s.err := rfl
@[simp] theorem State.setDofs_urunCnt (v : U16) :
    (s.setDofs v).urunCnt = s.urunCnt := rfl
@[simp] theorem State.setDofs_ferrCnt (v : U16) :
    (s.setDofs v).ferrCnt = s.ferrCnt := rfl
@[simp] theorem State.setDofs_qovfCnt (v : U16) :
    (s.setDofs v).qovfCnt = s.qovfCnt := rfl
@[simp] theorem State.setDofs_evout (v : U16) :
    (s.setDofs v).evout = s.evout := rfl
@[simp] theorem State.setDofs_blkout (v : U16) :
    (s.setDofs v).blkout = s.blkout := rfl
@[simp] theorem State.setDofs_resp (v : U16) :
    (s.setDofs v).resp = s.resp := rfl
@[simp] theorem State.setDofs_inbox (v : U16) :
    (s.setDofs v).inbox = s.inbox := rfl

@[simp] theorem State.setGain_cfg (v : U16) :
    (s.setGain v).cfg = s.cfg := rfl
@[simp] theorem State.setGain_wp (v : U16) :
    (s.setGain v).wp = s.wp := rfl
@[simp] theorem State.setGain_dofs (v : U16) :
    (s.setGain v).dofs = s.dofs := rfl
@[simp] theorem State.setGain_gain (v : U16) :
    (s.setGain v).gain = v := rfl
@[simp] theorem State.setGain_buf (v : U16) :
    (s.setGain v).buf = s.buf := rfl
@[simp] theorem State.setGain_mdSt (v : U16) :
    (s.setGain v).mdSt = s.mdSt := rfl
@[simp] theorem State.setGain_rsv (v : U16) :
    (s.setGain v).rsv = s.rsv := rfl
@[simp] theorem State.setGain_rs (v : U16) :
    (s.setGain v).rs = s.rs := rfl
@[simp] theorem State.setGain_d1 (v : U16) :
    (s.setGain v).d1 = s.d1 := rfl
@[simp] theorem State.setGain_mq (v : U16) :
    (s.setGain v).mq = s.mq := rfl
@[simp] theorem State.setGain_mqHead (v : U16) :
    (s.setGain v).mqHead = s.mqHead := rfl
@[simp] theorem State.setGain_mqCnt (v : U16) :
    (s.setGain v).mqCnt = s.mqCnt := rfl
@[simp] theorem State.setGain_blk (v : U16) :
    (s.setGain v).blk = s.blk := rfl
@[simp] theorem State.setGain_own (v : U16) :
    (s.setGain v).own = s.own := rfl
@[simp] theorem State.setGain_cur (v : U16) :
    (s.setGain v).cur = s.cur := rfl
@[simp] theorem State.setGain_schSt (v : U16) :
    (s.setGain v).schSt = s.schSt := rfl
@[simp] theorem State.setGain_err (v : U16) :
    (s.setGain v).err = s.err := rfl
@[simp] theorem State.setGain_urunCnt (v : U16) :
    (s.setGain v).urunCnt = s.urunCnt := rfl
@[simp] theorem State.setGain_ferrCnt (v : U16) :
    (s.setGain v).ferrCnt = s.ferrCnt := rfl
@[simp] theorem State.setGain_qovfCnt (v : U16) :
    (s.setGain v).qovfCnt = s.qovfCnt := rfl
@[simp] theorem State.setGain_evout (v : U16) :
    (s.setGain v).evout = s.evout := rfl
@[simp] theorem State.setGain_blkout (v : U16) :
    (s.setGain v).blkout = s.blkout := rfl
@[simp] theorem State.setGain_resp (v : U16) :
    (s.setGain v).resp = s.resp := rfl
@[simp] theorem State.setGain_inbox (v : U16) :
    (s.setGain v).inbox = s.inbox := rfl

@[simp] theorem State.setMdSt_cfg (v : MdState) :
    (s.setMdSt v).cfg = s.cfg := rfl
@[simp] theorem State.setMdSt_wp (v : MdState) :
    (s.setMdSt v).wp = s.wp := rfl
@[simp] theorem State.setMdSt_dofs (v : MdState) :
    (s.setMdSt v).dofs = s.dofs := rfl
@[simp] theorem State.setMdSt_gain (v : MdState) :
    (s.setMdSt v).gain = s.gain := rfl
@[simp] theorem State.setMdSt_buf (v : MdState) :
    (s.setMdSt v).buf = s.buf := rfl
@[simp] theorem State.setMdSt_mdSt (v : MdState) :
    (s.setMdSt v).mdSt = v := rfl
@[simp] theorem State.setMdSt_rsv (v : MdState) :
    (s.setMdSt v).rsv = s.rsv := rfl
@[simp] theorem State.setMdSt_rs (v : MdState) :
    (s.setMdSt v).rs = s.rs := rfl
@[simp] theorem State.setMdSt_d1 (v : MdState) :
    (s.setMdSt v).d1 = s.d1 := rfl
@[simp] theorem State.setMdSt_mq (v : MdState) :
    (s.setMdSt v).mq = s.mq := rfl
@[simp] theorem State.setMdSt_mqHead (v : MdState) :
    (s.setMdSt v).mqHead = s.mqHead := rfl
@[simp] theorem State.setMdSt_mqCnt (v : MdState) :
    (s.setMdSt v).mqCnt = s.mqCnt := rfl
@[simp] theorem State.setMdSt_blk (v : MdState) :
    (s.setMdSt v).blk = s.blk := rfl
@[simp] theorem State.setMdSt_own (v : MdState) :
    (s.setMdSt v).own = s.own := rfl
@[simp] theorem State.setMdSt_cur (v : MdState) :
    (s.setMdSt v).cur = s.cur := rfl
@[simp] theorem State.setMdSt_schSt (v : MdState) :
    (s.setMdSt v).schSt = s.schSt := rfl
@[simp] theorem State.setMdSt_err (v : MdState) :
    (s.setMdSt v).err = s.err := rfl
@[simp] theorem State.setMdSt_urunCnt (v : MdState) :
    (s.setMdSt v).urunCnt = s.urunCnt := rfl
@[simp] theorem State.setMdSt_ferrCnt (v : MdState) :
    (s.setMdSt v).ferrCnt = s.ferrCnt := rfl
@[simp] theorem State.setMdSt_qovfCnt (v : MdState) :
    (s.setMdSt v).qovfCnt = s.qovfCnt := rfl
@[simp] theorem State.setMdSt_evout (v : MdState) :
    (s.setMdSt v).evout = s.evout := rfl
@[simp] theorem State.setMdSt_blkout (v : MdState) :
    (s.setMdSt v).blkout = s.blkout := rfl
@[simp] theorem State.setMdSt_resp (v : MdState) :
    (s.setMdSt v).resp = s.resp := rfl
@[simp] theorem State.setMdSt_inbox (v : MdState) :
    (s.setMdSt v).inbox = s.inbox := rfl

@[simp] theorem State.setRsv_cfg (v : Bool) :
    (s.setRsv v).cfg = s.cfg := rfl
@[simp] theorem State.setRsv_wp (v : Bool) :
    (s.setRsv v).wp = s.wp := rfl
@[simp] theorem State.setRsv_dofs (v : Bool) :
    (s.setRsv v).dofs = s.dofs := rfl
@[simp] theorem State.setRsv_gain (v : Bool) :
    (s.setRsv v).gain = s.gain := rfl
@[simp] theorem State.setRsv_buf (v : Bool) :
    (s.setRsv v).buf = s.buf := rfl
@[simp] theorem State.setRsv_mdSt (v : Bool) :
    (s.setRsv v).mdSt = s.mdSt := rfl
@[simp] theorem State.setRsv_rsv (v : Bool) :
    (s.setRsv v).rsv = v := rfl
@[simp] theorem State.setRsv_rs (v : Bool) :
    (s.setRsv v).rs = s.rs := rfl
@[simp] theorem State.setRsv_d1 (v : Bool) :
    (s.setRsv v).d1 = s.d1 := rfl
@[simp] theorem State.setRsv_mq (v : Bool) :
    (s.setRsv v).mq = s.mq := rfl
@[simp] theorem State.setRsv_mqHead (v : Bool) :
    (s.setRsv v).mqHead = s.mqHead := rfl
@[simp] theorem State.setRsv_mqCnt (v : Bool) :
    (s.setRsv v).mqCnt = s.mqCnt := rfl
@[simp] theorem State.setRsv_blk (v : Bool) :
    (s.setRsv v).blk = s.blk := rfl
@[simp] theorem State.setRsv_own (v : Bool) :
    (s.setRsv v).own = s.own := rfl
@[simp] theorem State.setRsv_cur (v : Bool) :
    (s.setRsv v).cur = s.cur := rfl
@[simp] theorem State.setRsv_schSt (v : Bool) :
    (s.setRsv v).schSt = s.schSt := rfl
@[simp] theorem State.setRsv_err (v : Bool) :
    (s.setRsv v).err = s.err := rfl
@[simp] theorem State.setRsv_urunCnt (v : Bool) :
    (s.setRsv v).urunCnt = s.urunCnt := rfl
@[simp] theorem State.setRsv_ferrCnt (v : Bool) :
    (s.setRsv v).ferrCnt = s.ferrCnt := rfl
@[simp] theorem State.setRsv_qovfCnt (v : Bool) :
    (s.setRsv v).qovfCnt = s.qovfCnt := rfl
@[simp] theorem State.setRsv_evout (v : Bool) :
    (s.setRsv v).evout = s.evout := rfl
@[simp] theorem State.setRsv_blkout (v : Bool) :
    (s.setRsv v).blkout = s.blkout := rfl
@[simp] theorem State.setRsv_resp (v : Bool) :
    (s.setRsv v).resp = s.resp := rfl
@[simp] theorem State.setRsv_inbox (v : Bool) :
    (s.setRsv v).inbox = s.inbox := rfl

@[simp] theorem State.setRs_cfg (v : Byte) :
    (s.setRs v).cfg = s.cfg := rfl
@[simp] theorem State.setRs_wp (v : Byte) :
    (s.setRs v).wp = s.wp := rfl
@[simp] theorem State.setRs_dofs (v : Byte) :
    (s.setRs v).dofs = s.dofs := rfl
@[simp] theorem State.setRs_gain (v : Byte) :
    (s.setRs v).gain = s.gain := rfl
@[simp] theorem State.setRs_buf (v : Byte) :
    (s.setRs v).buf = s.buf := rfl
@[simp] theorem State.setRs_mdSt (v : Byte) :
    (s.setRs v).mdSt = s.mdSt := rfl
@[simp] theorem State.setRs_rsv (v : Byte) :
    (s.setRs v).rsv = s.rsv := rfl
@[simp] theorem State.setRs_rs (v : Byte) :
    (s.setRs v).rs = v := rfl
@[simp] theorem State.setRs_d1 (v : Byte) :
    (s.setRs v).d1 = s.d1 := rfl
@[simp] theorem State.setRs_mq (v : Byte) :
    (s.setRs v).mq = s.mq := rfl
@[simp] theorem State.setRs_mqHead (v : Byte) :
    (s.setRs v).mqHead = s.mqHead := rfl
@[simp] theorem State.setRs_mqCnt (v : Byte) :
    (s.setRs v).mqCnt = s.mqCnt := rfl
@[simp] theorem State.setRs_blk (v : Byte) :
    (s.setRs v).blk = s.blk := rfl
@[simp] theorem State.setRs_own (v : Byte) :
    (s.setRs v).own = s.own := rfl
@[simp] theorem State.setRs_cur (v : Byte) :
    (s.setRs v).cur = s.cur := rfl
@[simp] theorem State.setRs_schSt (v : Byte) :
    (s.setRs v).schSt = s.schSt := rfl
@[simp] theorem State.setRs_err (v : Byte) :
    (s.setRs v).err = s.err := rfl
@[simp] theorem State.setRs_urunCnt (v : Byte) :
    (s.setRs v).urunCnt = s.urunCnt := rfl
@[simp] theorem State.setRs_ferrCnt (v : Byte) :
    (s.setRs v).ferrCnt = s.ferrCnt := rfl
@[simp] theorem State.setRs_qovfCnt (v : Byte) :
    (s.setRs v).qovfCnt = s.qovfCnt := rfl
@[simp] theorem State.setRs_evout (v : Byte) :
    (s.setRs v).evout = s.evout := rfl
@[simp] theorem State.setRs_blkout (v : Byte) :
    (s.setRs v).blkout = s.blkout := rfl
@[simp] theorem State.setRs_resp (v : Byte) :
    (s.setRs v).resp = s.resp := rfl
@[simp] theorem State.setRs_inbox (v : Byte) :
    (s.setRs v).inbox = s.inbox := rfl

@[simp] theorem State.setD1_cfg (v : BitVec 7) :
    (s.setD1 v).cfg = s.cfg := rfl
@[simp] theorem State.setD1_wp (v : BitVec 7) :
    (s.setD1 v).wp = s.wp := rfl
@[simp] theorem State.setD1_dofs (v : BitVec 7) :
    (s.setD1 v).dofs = s.dofs := rfl
@[simp] theorem State.setD1_gain (v : BitVec 7) :
    (s.setD1 v).gain = s.gain := rfl
@[simp] theorem State.setD1_buf (v : BitVec 7) :
    (s.setD1 v).buf = s.buf := rfl
@[simp] theorem State.setD1_mdSt (v : BitVec 7) :
    (s.setD1 v).mdSt = s.mdSt := rfl
@[simp] theorem State.setD1_rsv (v : BitVec 7) :
    (s.setD1 v).rsv = s.rsv := rfl
@[simp] theorem State.setD1_rs (v : BitVec 7) :
    (s.setD1 v).rs = s.rs := rfl
@[simp] theorem State.setD1_d1 (v : BitVec 7) :
    (s.setD1 v).d1 = v := rfl
@[simp] theorem State.setD1_mq (v : BitVec 7) :
    (s.setD1 v).mq = s.mq := rfl
@[simp] theorem State.setD1_mqHead (v : BitVec 7) :
    (s.setD1 v).mqHead = s.mqHead := rfl
@[simp] theorem State.setD1_mqCnt (v : BitVec 7) :
    (s.setD1 v).mqCnt = s.mqCnt := rfl
@[simp] theorem State.setD1_blk (v : BitVec 7) :
    (s.setD1 v).blk = s.blk := rfl
@[simp] theorem State.setD1_own (v : BitVec 7) :
    (s.setD1 v).own = s.own := rfl
@[simp] theorem State.setD1_cur (v : BitVec 7) :
    (s.setD1 v).cur = s.cur := rfl
@[simp] theorem State.setD1_schSt (v : BitVec 7) :
    (s.setD1 v).schSt = s.schSt := rfl
@[simp] theorem State.setD1_err (v : BitVec 7) :
    (s.setD1 v).err = s.err := rfl
@[simp] theorem State.setD1_urunCnt (v : BitVec 7) :
    (s.setD1 v).urunCnt = s.urunCnt := rfl
@[simp] theorem State.setD1_ferrCnt (v : BitVec 7) :
    (s.setD1 v).ferrCnt = s.ferrCnt := rfl
@[simp] theorem State.setD1_qovfCnt (v : BitVec 7) :
    (s.setD1 v).qovfCnt = s.qovfCnt := rfl
@[simp] theorem State.setD1_evout (v : BitVec 7) :
    (s.setD1 v).evout = s.evout := rfl
@[simp] theorem State.setD1_blkout (v : BitVec 7) :
    (s.setD1 v).blkout = s.blkout := rfl
@[simp] theorem State.setD1_resp (v : BitVec 7) :
    (s.setD1 v).resp = s.resp := rfl
@[simp] theorem State.setD1_inbox (v : BitVec 7) :
    (s.setD1 v).inbox = s.inbox := rfl

@[simp] theorem State.setMq_cfg (v : Memory 24) :
    (s.setMq v).cfg = s.cfg := rfl
@[simp] theorem State.setMq_wp (v : Memory 24) :
    (s.setMq v).wp = s.wp := rfl
@[simp] theorem State.setMq_dofs (v : Memory 24) :
    (s.setMq v).dofs = s.dofs := rfl
@[simp] theorem State.setMq_gain (v : Memory 24) :
    (s.setMq v).gain = s.gain := rfl
@[simp] theorem State.setMq_buf (v : Memory 24) :
    (s.setMq v).buf = s.buf := rfl
@[simp] theorem State.setMq_mdSt (v : Memory 24) :
    (s.setMq v).mdSt = s.mdSt := rfl
@[simp] theorem State.setMq_rsv (v : Memory 24) :
    (s.setMq v).rsv = s.rsv := rfl
@[simp] theorem State.setMq_rs (v : Memory 24) :
    (s.setMq v).rs = s.rs := rfl
@[simp] theorem State.setMq_d1 (v : Memory 24) :
    (s.setMq v).d1 = s.d1 := rfl
@[simp] theorem State.setMq_mq (v : Memory 24) :
    (s.setMq v).mq = v := rfl
@[simp] theorem State.setMq_mqHead (v : Memory 24) :
    (s.setMq v).mqHead = s.mqHead := rfl
@[simp] theorem State.setMq_mqCnt (v : Memory 24) :
    (s.setMq v).mqCnt = s.mqCnt := rfl
@[simp] theorem State.setMq_blk (v : Memory 24) :
    (s.setMq v).blk = s.blk := rfl
@[simp] theorem State.setMq_own (v : Memory 24) :
    (s.setMq v).own = s.own := rfl
@[simp] theorem State.setMq_cur (v : Memory 24) :
    (s.setMq v).cur = s.cur := rfl
@[simp] theorem State.setMq_schSt (v : Memory 24) :
    (s.setMq v).schSt = s.schSt := rfl
@[simp] theorem State.setMq_err (v : Memory 24) :
    (s.setMq v).err = s.err := rfl
@[simp] theorem State.setMq_urunCnt (v : Memory 24) :
    (s.setMq v).urunCnt = s.urunCnt := rfl
@[simp] theorem State.setMq_ferrCnt (v : Memory 24) :
    (s.setMq v).ferrCnt = s.ferrCnt := rfl
@[simp] theorem State.setMq_qovfCnt (v : Memory 24) :
    (s.setMq v).qovfCnt = s.qovfCnt := rfl
@[simp] theorem State.setMq_evout (v : Memory 24) :
    (s.setMq v).evout = s.evout := rfl
@[simp] theorem State.setMq_blkout (v : Memory 24) :
    (s.setMq v).blkout = s.blkout := rfl
@[simp] theorem State.setMq_resp (v : Memory 24) :
    (s.setMq v).resp = s.resp := rfl
@[simp] theorem State.setMq_inbox (v : Memory 24) :
    (s.setMq v).inbox = s.inbox := rfl

@[simp] theorem State.setMqCursors_cfg (head cnt : Nat) :
    (s.setMqCursors head cnt).cfg = s.cfg := rfl
@[simp] theorem State.setMqCursors_wp (head cnt : Nat) :
    (s.setMqCursors head cnt).wp = s.wp := rfl
@[simp] theorem State.setMqCursors_dofs (head cnt : Nat) :
    (s.setMqCursors head cnt).dofs = s.dofs := rfl
@[simp] theorem State.setMqCursors_gain (head cnt : Nat) :
    (s.setMqCursors head cnt).gain = s.gain := rfl
@[simp] theorem State.setMqCursors_buf (head cnt : Nat) :
    (s.setMqCursors head cnt).buf = s.buf := rfl
@[simp] theorem State.setMqCursors_mdSt (head cnt : Nat) :
    (s.setMqCursors head cnt).mdSt = s.mdSt := rfl
@[simp] theorem State.setMqCursors_rsv (head cnt : Nat) :
    (s.setMqCursors head cnt).rsv = s.rsv := rfl
@[simp] theorem State.setMqCursors_rs (head cnt : Nat) :
    (s.setMqCursors head cnt).rs = s.rs := rfl
@[simp] theorem State.setMqCursors_d1 (head cnt : Nat) :
    (s.setMqCursors head cnt).d1 = s.d1 := rfl
@[simp] theorem State.setMqCursors_mq (head cnt : Nat) :
    (s.setMqCursors head cnt).mq = s.mq := rfl
@[simp] theorem State.setMqCursors_mqHead (head cnt : Nat) :
    (s.setMqCursors head cnt).mqHead = head := rfl
@[simp] theorem State.setMqCursors_mqCnt (head cnt : Nat) :
    (s.setMqCursors head cnt).mqCnt = cnt := rfl
@[simp] theorem State.setMqCursors_blk (head cnt : Nat) :
    (s.setMqCursors head cnt).blk = s.blk := rfl
@[simp] theorem State.setMqCursors_own (head cnt : Nat) :
    (s.setMqCursors head cnt).own = s.own := rfl
@[simp] theorem State.setMqCursors_cur (head cnt : Nat) :
    (s.setMqCursors head cnt).cur = s.cur := rfl
@[simp] theorem State.setMqCursors_schSt (head cnt : Nat) :
    (s.setMqCursors head cnt).schSt = s.schSt := rfl
@[simp] theorem State.setMqCursors_err (head cnt : Nat) :
    (s.setMqCursors head cnt).err = s.err := rfl
@[simp] theorem State.setMqCursors_urunCnt (head cnt : Nat) :
    (s.setMqCursors head cnt).urunCnt = s.urunCnt := rfl
@[simp] theorem State.setMqCursors_ferrCnt (head cnt : Nat) :
    (s.setMqCursors head cnt).ferrCnt = s.ferrCnt := rfl
@[simp] theorem State.setMqCursors_qovfCnt (head cnt : Nat) :
    (s.setMqCursors head cnt).qovfCnt = s.qovfCnt := rfl
@[simp] theorem State.setMqCursors_evout (head cnt : Nat) :
    (s.setMqCursors head cnt).evout = s.evout := rfl
@[simp] theorem State.setMqCursors_blkout (head cnt : Nat) :
    (s.setMqCursors head cnt).blkout = s.blkout := rfl
@[simp] theorem State.setMqCursors_resp (head cnt : Nat) :
    (s.setMqCursors head cnt).resp = s.resp := rfl
@[simp] theorem State.setMqCursors_inbox (head cnt : Nat) :
    (s.setMqCursors head cnt).inbox = s.inbox := rfl

@[simp] theorem State.setBlock_cfg (k : Nat) (m : Memory 16) :
    (s.setBlock k m).cfg = s.cfg := rfl
@[simp] theorem State.setBlock_wp (k : Nat) (m : Memory 16) :
    (s.setBlock k m).wp = s.wp := rfl
@[simp] theorem State.setBlock_dofs (k : Nat) (m : Memory 16) :
    (s.setBlock k m).dofs = s.dofs := rfl
@[simp] theorem State.setBlock_gain (k : Nat) (m : Memory 16) :
    (s.setBlock k m).gain = s.gain := rfl
@[simp] theorem State.setBlock_buf (k : Nat) (m : Memory 16) :
    (s.setBlock k m).buf = s.buf := rfl
@[simp] theorem State.setBlock_mdSt (k : Nat) (m : Memory 16) :
    (s.setBlock k m).mdSt = s.mdSt := rfl
@[simp] theorem State.setBlock_rsv (k : Nat) (m : Memory 16) :
    (s.setBlock k m).rsv = s.rsv := rfl
@[simp] theorem State.setBlock_rs (k : Nat) (m : Memory 16) :
    (s.setBlock k m).rs = s.rs := rfl
@[simp] theorem State.setBlock_d1 (k : Nat) (m : Memory 16) :
    (s.setBlock k m).d1 = s.d1 := rfl
@[simp] theorem State.setBlock_mq (k : Nat) (m : Memory 16) :
    (s.setBlock k m).mq = s.mq := rfl
@[simp] theorem State.setBlock_mqHead (k : Nat) (m : Memory 16) :
    (s.setBlock k m).mqHead = s.mqHead := rfl
@[simp] theorem State.setBlock_mqCnt (k : Nat) (m : Memory 16) :
    (s.setBlock k m).mqCnt = s.mqCnt := rfl
@[simp] theorem State.setBlock_blk (k : Nat) (m : Memory 16) :
    (s.setBlock k m).blk = s.blk.set k m := rfl
@[simp] theorem State.setBlock_own (k : Nat) (m : Memory 16) :
    (s.setBlock k m).own = s.own := rfl
@[simp] theorem State.setBlock_cur (k : Nat) (m : Memory 16) :
    (s.setBlock k m).cur = s.cur := rfl
@[simp] theorem State.setBlock_schSt (k : Nat) (m : Memory 16) :
    (s.setBlock k m).schSt = s.schSt := rfl
@[simp] theorem State.setBlock_err (k : Nat) (m : Memory 16) :
    (s.setBlock k m).err = s.err := rfl
@[simp] theorem State.setBlock_urunCnt (k : Nat) (m : Memory 16) :
    (s.setBlock k m).urunCnt = s.urunCnt := rfl
@[simp] theorem State.setBlock_ferrCnt (k : Nat) (m : Memory 16) :
    (s.setBlock k m).ferrCnt = s.ferrCnt := rfl
@[simp] theorem State.setBlock_qovfCnt (k : Nat) (m : Memory 16) :
    (s.setBlock k m).qovfCnt = s.qovfCnt := rfl
@[simp] theorem State.setBlock_evout (k : Nat) (m : Memory 16) :
    (s.setBlock k m).evout = s.evout := rfl
@[simp] theorem State.setBlock_blkout (k : Nat) (m : Memory 16) :
    (s.setBlock k m).blkout = s.blkout := rfl
@[simp] theorem State.setBlock_resp (k : Nat) (m : Memory 16) :
    (s.setBlock k m).resp = s.resp := rfl
@[simp] theorem State.setBlock_inbox (k : Nat) (m : Memory 16) :
    (s.setBlock k m).inbox = s.inbox := rfl

@[simp] theorem State.setOwner_cfg (k : Nat) (o : Owner) :
    (s.setOwner k o).cfg = s.cfg := rfl
@[simp] theorem State.setOwner_wp (k : Nat) (o : Owner) :
    (s.setOwner k o).wp = s.wp := rfl
@[simp] theorem State.setOwner_dofs (k : Nat) (o : Owner) :
    (s.setOwner k o).dofs = s.dofs := rfl
@[simp] theorem State.setOwner_gain (k : Nat) (o : Owner) :
    (s.setOwner k o).gain = s.gain := rfl
@[simp] theorem State.setOwner_buf (k : Nat) (o : Owner) :
    (s.setOwner k o).buf = s.buf := rfl
@[simp] theorem State.setOwner_mdSt (k : Nat) (o : Owner) :
    (s.setOwner k o).mdSt = s.mdSt := rfl
@[simp] theorem State.setOwner_rsv (k : Nat) (o : Owner) :
    (s.setOwner k o).rsv = s.rsv := rfl
@[simp] theorem State.setOwner_rs (k : Nat) (o : Owner) :
    (s.setOwner k o).rs = s.rs := rfl
@[simp] theorem State.setOwner_d1 (k : Nat) (o : Owner) :
    (s.setOwner k o).d1 = s.d1 := rfl
@[simp] theorem State.setOwner_mq (k : Nat) (o : Owner) :
    (s.setOwner k o).mq = s.mq := rfl
@[simp] theorem State.setOwner_mqHead (k : Nat) (o : Owner) :
    (s.setOwner k o).mqHead = s.mqHead := rfl
@[simp] theorem State.setOwner_mqCnt (k : Nat) (o : Owner) :
    (s.setOwner k o).mqCnt = s.mqCnt := rfl
@[simp] theorem State.setOwner_blk (k : Nat) (o : Owner) :
    (s.setOwner k o).blk = s.blk := rfl
@[simp] theorem State.setOwner_own (k : Nat) (o : Owner) :
    (s.setOwner k o).own = s.own.set k o := rfl
@[simp] theorem State.setOwner_cur (k : Nat) (o : Owner) :
    (s.setOwner k o).cur = s.cur := rfl
@[simp] theorem State.setOwner_schSt (k : Nat) (o : Owner) :
    (s.setOwner k o).schSt = s.schSt := rfl
@[simp] theorem State.setOwner_err (k : Nat) (o : Owner) :
    (s.setOwner k o).err = s.err := rfl
@[simp] theorem State.setOwner_urunCnt (k : Nat) (o : Owner) :
    (s.setOwner k o).urunCnt = s.urunCnt := rfl
@[simp] theorem State.setOwner_ferrCnt (k : Nat) (o : Owner) :
    (s.setOwner k o).ferrCnt = s.ferrCnt := rfl
@[simp] theorem State.setOwner_qovfCnt (k : Nat) (o : Owner) :
    (s.setOwner k o).qovfCnt = s.qovfCnt := rfl
@[simp] theorem State.setOwner_evout (k : Nat) (o : Owner) :
    (s.setOwner k o).evout = s.evout := rfl
@[simp] theorem State.setOwner_blkout (k : Nat) (o : Owner) :
    (s.setOwner k o).blkout = s.blkout := rfl
@[simp] theorem State.setOwner_resp (k : Nat) (o : Owner) :
    (s.setOwner k o).resp = s.resp := rfl
@[simp] theorem State.setOwner_inbox (k : Nat) (o : Owner) :
    (s.setOwner k o).inbox = s.inbox := rfl

@[simp] theorem State.setCur_cfg (v : Nat) :
    (s.setCur v).cfg = s.cfg := rfl
@[simp] theorem State.setCur_wp (v : Nat) :
    (s.setCur v).wp = s.wp := rfl
@[simp] theorem State.setCur_dofs (v : Nat) :
    (s.setCur v).dofs = s.dofs := rfl
@[simp] theorem State.setCur_gain (v : Nat) :
    (s.setCur v).gain = s.gain := rfl
@[simp] theorem State.setCur_buf (v : Nat) :
    (s.setCur v).buf = s.buf := rfl
@[simp] theorem State.setCur_mdSt (v : Nat) :
    (s.setCur v).mdSt = s.mdSt := rfl
@[simp] theorem State.setCur_rsv (v : Nat) :
    (s.setCur v).rsv = s.rsv := rfl
@[simp] theorem State.setCur_rs (v : Nat) :
    (s.setCur v).rs = s.rs := rfl
@[simp] theorem State.setCur_d1 (v : Nat) :
    (s.setCur v).d1 = s.d1 := rfl
@[simp] theorem State.setCur_mq (v : Nat) :
    (s.setCur v).mq = s.mq := rfl
@[simp] theorem State.setCur_mqHead (v : Nat) :
    (s.setCur v).mqHead = s.mqHead := rfl
@[simp] theorem State.setCur_mqCnt (v : Nat) :
    (s.setCur v).mqCnt = s.mqCnt := rfl
@[simp] theorem State.setCur_blk (v : Nat) :
    (s.setCur v).blk = s.blk := rfl
@[simp] theorem State.setCur_own (v : Nat) :
    (s.setCur v).own = s.own := rfl
@[simp] theorem State.setCur_cur (v : Nat) :
    (s.setCur v).cur = v := rfl
@[simp] theorem State.setCur_schSt (v : Nat) :
    (s.setCur v).schSt = s.schSt := rfl
@[simp] theorem State.setCur_err (v : Nat) :
    (s.setCur v).err = s.err := rfl
@[simp] theorem State.setCur_urunCnt (v : Nat) :
    (s.setCur v).urunCnt = s.urunCnt := rfl
@[simp] theorem State.setCur_ferrCnt (v : Nat) :
    (s.setCur v).ferrCnt = s.ferrCnt := rfl
@[simp] theorem State.setCur_qovfCnt (v : Nat) :
    (s.setCur v).qovfCnt = s.qovfCnt := rfl
@[simp] theorem State.setCur_evout (v : Nat) :
    (s.setCur v).evout = s.evout := rfl
@[simp] theorem State.setCur_blkout (v : Nat) :
    (s.setCur v).blkout = s.blkout := rfl
@[simp] theorem State.setCur_resp (v : Nat) :
    (s.setCur v).resp = s.resp := rfl
@[simp] theorem State.setCur_inbox (v : Nat) :
    (s.setCur v).inbox = s.inbox := rfl

@[simp] theorem State.setSchSt_cfg (v : SchState) :
    (s.setSchSt v).cfg = s.cfg := rfl
@[simp] theorem State.setSchSt_wp (v : SchState) :
    (s.setSchSt v).wp = s.wp := rfl
@[simp] theorem State.setSchSt_dofs (v : SchState) :
    (s.setSchSt v).dofs = s.dofs := rfl
@[simp] theorem State.setSchSt_gain (v : SchState) :
    (s.setSchSt v).gain = s.gain := rfl
@[simp] theorem State.setSchSt_buf (v : SchState) :
    (s.setSchSt v).buf = s.buf := rfl
@[simp] theorem State.setSchSt_mdSt (v : SchState) :
    (s.setSchSt v).mdSt = s.mdSt := rfl
@[simp] theorem State.setSchSt_rsv (v : SchState) :
    (s.setSchSt v).rsv = s.rsv := rfl
@[simp] theorem State.setSchSt_rs (v : SchState) :
    (s.setSchSt v).rs = s.rs := rfl
@[simp] theorem State.setSchSt_d1 (v : SchState) :
    (s.setSchSt v).d1 = s.d1 := rfl
@[simp] theorem State.setSchSt_mq (v : SchState) :
    (s.setSchSt v).mq = s.mq := rfl
@[simp] theorem State.setSchSt_mqHead (v : SchState) :
    (s.setSchSt v).mqHead = s.mqHead := rfl
@[simp] theorem State.setSchSt_mqCnt (v : SchState) :
    (s.setSchSt v).mqCnt = s.mqCnt := rfl
@[simp] theorem State.setSchSt_blk (v : SchState) :
    (s.setSchSt v).blk = s.blk := rfl
@[simp] theorem State.setSchSt_own (v : SchState) :
    (s.setSchSt v).own = s.own := rfl
@[simp] theorem State.setSchSt_cur (v : SchState) :
    (s.setSchSt v).cur = s.cur := rfl
@[simp] theorem State.setSchSt_schSt (v : SchState) :
    (s.setSchSt v).schSt = v := rfl
@[simp] theorem State.setSchSt_err (v : SchState) :
    (s.setSchSt v).err = s.err := rfl
@[simp] theorem State.setSchSt_urunCnt (v : SchState) :
    (s.setSchSt v).urunCnt = s.urunCnt := rfl
@[simp] theorem State.setSchSt_ferrCnt (v : SchState) :
    (s.setSchSt v).ferrCnt = s.ferrCnt := rfl
@[simp] theorem State.setSchSt_qovfCnt (v : SchState) :
    (s.setSchSt v).qovfCnt = s.qovfCnt := rfl
@[simp] theorem State.setSchSt_evout (v : SchState) :
    (s.setSchSt v).evout = s.evout := rfl
@[simp] theorem State.setSchSt_blkout (v : SchState) :
    (s.setSchSt v).blkout = s.blkout := rfl
@[simp] theorem State.setSchSt_resp (v : SchState) :
    (s.setSchSt v).resp = s.resp := rfl
@[simp] theorem State.setSchSt_inbox (v : SchState) :
    (s.setSchSt v).inbox = s.inbox := rfl

@[simp] theorem State.setErrors_cfg (err urun ferr qovf : U16) :
    (s.setErrors err urun ferr qovf).cfg = s.cfg := rfl
@[simp] theorem State.setErrors_wp (err urun ferr qovf : U16) :
    (s.setErrors err urun ferr qovf).wp = s.wp := rfl
@[simp] theorem State.setErrors_dofs (err urun ferr qovf : U16) :
    (s.setErrors err urun ferr qovf).dofs = s.dofs := rfl
@[simp] theorem State.setErrors_gain (err urun ferr qovf : U16) :
    (s.setErrors err urun ferr qovf).gain = s.gain := rfl
@[simp] theorem State.setErrors_buf (err urun ferr qovf : U16) :
    (s.setErrors err urun ferr qovf).buf = s.buf := rfl
@[simp] theorem State.setErrors_mdSt (err urun ferr qovf : U16) :
    (s.setErrors err urun ferr qovf).mdSt = s.mdSt := rfl
@[simp] theorem State.setErrors_rsv (err urun ferr qovf : U16) :
    (s.setErrors err urun ferr qovf).rsv = s.rsv := rfl
@[simp] theorem State.setErrors_rs (err urun ferr qovf : U16) :
    (s.setErrors err urun ferr qovf).rs = s.rs := rfl
@[simp] theorem State.setErrors_d1 (err urun ferr qovf : U16) :
    (s.setErrors err urun ferr qovf).d1 = s.d1 := rfl
@[simp] theorem State.setErrors_mq (err urun ferr qovf : U16) :
    (s.setErrors err urun ferr qovf).mq = s.mq := rfl
@[simp] theorem State.setErrors_mqHead (err urun ferr qovf : U16) :
    (s.setErrors err urun ferr qovf).mqHead = s.mqHead := rfl
@[simp] theorem State.setErrors_mqCnt (err urun ferr qovf : U16) :
    (s.setErrors err urun ferr qovf).mqCnt = s.mqCnt := rfl
@[simp] theorem State.setErrors_blk (err urun ferr qovf : U16) :
    (s.setErrors err urun ferr qovf).blk = s.blk := rfl
@[simp] theorem State.setErrors_own (err urun ferr qovf : U16) :
    (s.setErrors err urun ferr qovf).own = s.own := rfl
@[simp] theorem State.setErrors_cur (err urun ferr qovf : U16) :
    (s.setErrors err urun ferr qovf).cur = s.cur := rfl
@[simp] theorem State.setErrors_schSt (err urun ferr qovf : U16) :
    (s.setErrors err urun ferr qovf).schSt = s.schSt := rfl
@[simp] theorem State.setErrors_err (err urun ferr qovf : U16) :
    (s.setErrors err urun ferr qovf).err = err := rfl
@[simp] theorem State.setErrors_urunCnt (err urun ferr qovf : U16) :
    (s.setErrors err urun ferr qovf).urunCnt = urun := rfl
@[simp] theorem State.setErrors_ferrCnt (err urun ferr qovf : U16) :
    (s.setErrors err urun ferr qovf).ferrCnt = ferr := rfl
@[simp] theorem State.setErrors_qovfCnt (err urun ferr qovf : U16) :
    (s.setErrors err urun ferr qovf).qovfCnt = qovf := rfl
@[simp] theorem State.setErrors_evout (err urun ferr qovf : U16) :
    (s.setErrors err urun ferr qovf).evout = s.evout := rfl
@[simp] theorem State.setErrors_blkout (err urun ferr qovf : U16) :
    (s.setErrors err urun ferr qovf).blkout = s.blkout := rfl
@[simp] theorem State.setErrors_resp (err urun ferr qovf : U16) :
    (s.setErrors err urun ferr qovf).resp = s.resp := rfl
@[simp] theorem State.setErrors_inbox (err urun ferr qovf : U16) :
    (s.setErrors err urun ferr qovf).inbox = s.inbox := rfl

@[simp] theorem State.putEvout_cfg (evs : List EventWord) :
    (s.putEvout evs).cfg = s.cfg := rfl
@[simp] theorem State.putEvout_wp (evs : List EventWord) :
    (s.putEvout evs).wp = s.wp := rfl
@[simp] theorem State.putEvout_dofs (evs : List EventWord) :
    (s.putEvout evs).dofs = s.dofs := rfl
@[simp] theorem State.putEvout_gain (evs : List EventWord) :
    (s.putEvout evs).gain = s.gain := rfl
@[simp] theorem State.putEvout_buf (evs : List EventWord) :
    (s.putEvout evs).buf = s.buf := rfl
@[simp] theorem State.putEvout_mdSt (evs : List EventWord) :
    (s.putEvout evs).mdSt = s.mdSt := rfl
@[simp] theorem State.putEvout_rsv (evs : List EventWord) :
    (s.putEvout evs).rsv = s.rsv := rfl
@[simp] theorem State.putEvout_rs (evs : List EventWord) :
    (s.putEvout evs).rs = s.rs := rfl
@[simp] theorem State.putEvout_d1 (evs : List EventWord) :
    (s.putEvout evs).d1 = s.d1 := rfl
@[simp] theorem State.putEvout_mq (evs : List EventWord) :
    (s.putEvout evs).mq = s.mq := rfl
@[simp] theorem State.putEvout_mqHead (evs : List EventWord) :
    (s.putEvout evs).mqHead = s.mqHead := rfl
@[simp] theorem State.putEvout_mqCnt (evs : List EventWord) :
    (s.putEvout evs).mqCnt = s.mqCnt := rfl
@[simp] theorem State.putEvout_blk (evs : List EventWord) :
    (s.putEvout evs).blk = s.blk := rfl
@[simp] theorem State.putEvout_own (evs : List EventWord) :
    (s.putEvout evs).own = s.own := rfl
@[simp] theorem State.putEvout_cur (evs : List EventWord) :
    (s.putEvout evs).cur = s.cur := rfl
@[simp] theorem State.putEvout_schSt (evs : List EventWord) :
    (s.putEvout evs).schSt = s.schSt := rfl
@[simp] theorem State.putEvout_err (evs : List EventWord) :
    (s.putEvout evs).err = s.err := rfl
@[simp] theorem State.putEvout_urunCnt (evs : List EventWord) :
    (s.putEvout evs).urunCnt = s.urunCnt := rfl
@[simp] theorem State.putEvout_ferrCnt (evs : List EventWord) :
    (s.putEvout evs).ferrCnt = s.ferrCnt := rfl
@[simp] theorem State.putEvout_qovfCnt (evs : List EventWord) :
    (s.putEvout evs).qovfCnt = s.qovfCnt := rfl
@[simp] theorem State.putEvout_evout (evs : List EventWord) :
    (s.putEvout evs).evout = s.evout ++ [evs] := rfl
@[simp] theorem State.putEvout_blkout (evs : List EventWord) :
    (s.putEvout evs).blkout = s.blkout := rfl
@[simp] theorem State.putEvout_resp (evs : List EventWord) :
    (s.putEvout evs).resp = s.resp := rfl
@[simp] theorem State.putEvout_inbox (evs : List EventWord) :
    (s.putEvout evs).inbox = s.inbox := rfl

@[simp] theorem State.putBlkout_cfg (r : BlockRecord) :
    (s.putBlkout r).cfg = s.cfg := rfl
@[simp] theorem State.putBlkout_wp (r : BlockRecord) :
    (s.putBlkout r).wp = s.wp := rfl
@[simp] theorem State.putBlkout_dofs (r : BlockRecord) :
    (s.putBlkout r).dofs = s.dofs := rfl
@[simp] theorem State.putBlkout_gain (r : BlockRecord) :
    (s.putBlkout r).gain = s.gain := rfl
@[simp] theorem State.putBlkout_buf (r : BlockRecord) :
    (s.putBlkout r).buf = s.buf := rfl
@[simp] theorem State.putBlkout_mdSt (r : BlockRecord) :
    (s.putBlkout r).mdSt = s.mdSt := rfl
@[simp] theorem State.putBlkout_rsv (r : BlockRecord) :
    (s.putBlkout r).rsv = s.rsv := rfl
@[simp] theorem State.putBlkout_rs (r : BlockRecord) :
    (s.putBlkout r).rs = s.rs := rfl
@[simp] theorem State.putBlkout_d1 (r : BlockRecord) :
    (s.putBlkout r).d1 = s.d1 := rfl
@[simp] theorem State.putBlkout_mq (r : BlockRecord) :
    (s.putBlkout r).mq = s.mq := rfl
@[simp] theorem State.putBlkout_mqHead (r : BlockRecord) :
    (s.putBlkout r).mqHead = s.mqHead := rfl
@[simp] theorem State.putBlkout_mqCnt (r : BlockRecord) :
    (s.putBlkout r).mqCnt = s.mqCnt := rfl
@[simp] theorem State.putBlkout_blk (r : BlockRecord) :
    (s.putBlkout r).blk = s.blk := rfl
@[simp] theorem State.putBlkout_own (r : BlockRecord) :
    (s.putBlkout r).own = s.own := rfl
@[simp] theorem State.putBlkout_cur (r : BlockRecord) :
    (s.putBlkout r).cur = s.cur := rfl
@[simp] theorem State.putBlkout_schSt (r : BlockRecord) :
    (s.putBlkout r).schSt = s.schSt := rfl
@[simp] theorem State.putBlkout_err (r : BlockRecord) :
    (s.putBlkout r).err = s.err := rfl
@[simp] theorem State.putBlkout_urunCnt (r : BlockRecord) :
    (s.putBlkout r).urunCnt = s.urunCnt := rfl
@[simp] theorem State.putBlkout_ferrCnt (r : BlockRecord) :
    (s.putBlkout r).ferrCnt = s.ferrCnt := rfl
@[simp] theorem State.putBlkout_qovfCnt (r : BlockRecord) :
    (s.putBlkout r).qovfCnt = s.qovfCnt := rfl
@[simp] theorem State.putBlkout_evout (r : BlockRecord) :
    (s.putBlkout r).evout = s.evout := rfl
@[simp] theorem State.putBlkout_blkout (r : BlockRecord) :
    (s.putBlkout r).blkout = s.blkout ++ [r] := rfl
@[simp] theorem State.putBlkout_resp (r : BlockRecord) :
    (s.putBlkout r).resp = s.resp := rfl
@[simp] theorem State.putBlkout_inbox (r : BlockRecord) :
    (s.putBlkout r).inbox = s.inbox := rfl

@[simp] theorem State.putResp_cfg (p : ResponseWord) :
    (s.putResp p).cfg = s.cfg := rfl
@[simp] theorem State.putResp_wp (p : ResponseWord) :
    (s.putResp p).wp = s.wp := rfl
@[simp] theorem State.putResp_dofs (p : ResponseWord) :
    (s.putResp p).dofs = s.dofs := rfl
@[simp] theorem State.putResp_gain (p : ResponseWord) :
    (s.putResp p).gain = s.gain := rfl
@[simp] theorem State.putResp_buf (p : ResponseWord) :
    (s.putResp p).buf = s.buf := rfl
@[simp] theorem State.putResp_mdSt (p : ResponseWord) :
    (s.putResp p).mdSt = s.mdSt := rfl
@[simp] theorem State.putResp_rsv (p : ResponseWord) :
    (s.putResp p).rsv = s.rsv := rfl
@[simp] theorem State.putResp_rs (p : ResponseWord) :
    (s.putResp p).rs = s.rs := rfl
@[simp] theorem State.putResp_d1 (p : ResponseWord) :
    (s.putResp p).d1 = s.d1 := rfl
@[simp] theorem State.putResp_mq (p : ResponseWord) :
    (s.putResp p).mq = s.mq := rfl
@[simp] theorem State.putResp_mqHead (p : ResponseWord) :
    (s.putResp p).mqHead = s.mqHead := rfl
@[simp] theorem State.putResp_mqCnt (p : ResponseWord) :
    (s.putResp p).mqCnt = s.mqCnt := rfl
@[simp] theorem State.putResp_blk (p : ResponseWord) :
    (s.putResp p).blk = s.blk := rfl
@[simp] theorem State.putResp_own (p : ResponseWord) :
    (s.putResp p).own = s.own := rfl
@[simp] theorem State.putResp_cur (p : ResponseWord) :
    (s.putResp p).cur = s.cur := rfl
@[simp] theorem State.putResp_schSt (p : ResponseWord) :
    (s.putResp p).schSt = s.schSt := rfl
@[simp] theorem State.putResp_err (p : ResponseWord) :
    (s.putResp p).err = s.err := rfl
@[simp] theorem State.putResp_urunCnt (p : ResponseWord) :
    (s.putResp p).urunCnt = s.urunCnt := rfl
@[simp] theorem State.putResp_ferrCnt (p : ResponseWord) :
    (s.putResp p).ferrCnt = s.ferrCnt := rfl
@[simp] theorem State.putResp_qovfCnt (p : ResponseWord) :
    (s.putResp p).qovfCnt = s.qovfCnt := rfl
@[simp] theorem State.putResp_evout (p : ResponseWord) :
    (s.putResp p).evout = s.evout := rfl
@[simp] theorem State.putResp_blkout (p : ResponseWord) :
    (s.putResp p).blkout = s.blkout := rfl
@[simp] theorem State.putResp_resp (p : ResponseWord) :
    (s.putResp p).resp = s.resp ++ [p] := rfl
@[simp] theorem State.putResp_inbox (p : ResponseWord) :
    (s.putResp p).inbox = s.inbox := rfl

@[simp] theorem State.setInbox_cfg (ws : List PortWord) :
    (s.setInbox ws).cfg = s.cfg := rfl
@[simp] theorem State.setInbox_wp (ws : List PortWord) :
    (s.setInbox ws).wp = s.wp := rfl
@[simp] theorem State.setInbox_dofs (ws : List PortWord) :
    (s.setInbox ws).dofs = s.dofs := rfl
@[simp] theorem State.setInbox_gain (ws : List PortWord) :
    (s.setInbox ws).gain = s.gain := rfl
@[simp] theorem State.setInbox_buf (ws : List PortWord) :
    (s.setInbox ws).buf = s.buf := rfl
@[simp] theorem State.setInbox_mdSt (ws : List PortWord) :
    (s.setInbox ws).mdSt = s.mdSt := rfl
@[simp] theorem State.setInbox_rsv (ws : List PortWord) :
    (s.setInbox ws).rsv = s.rsv := rfl
@[simp] theorem State.setInbox_rs (ws : List PortWord) :
    (s.setInbox ws).rs = s.rs := rfl
@[simp] theorem State.setInbox_d1 (ws : List PortWord) :
    (s.setInbox ws).d1 = s.d1 := rfl
@[simp] theorem State.setInbox_mq (ws : List PortWord) :
    (s.setInbox ws).mq = s.mq := rfl
@[simp] theorem State.setInbox_mqHead (ws : List PortWord) :
    (s.setInbox ws).mqHead = s.mqHead := rfl
@[simp] theorem State.setInbox_mqCnt (ws : List PortWord) :
    (s.setInbox ws).mqCnt = s.mqCnt := rfl
@[simp] theorem State.setInbox_blk (ws : List PortWord) :
    (s.setInbox ws).blk = s.blk := rfl
@[simp] theorem State.setInbox_own (ws : List PortWord) :
    (s.setInbox ws).own = s.own := rfl
@[simp] theorem State.setInbox_cur (ws : List PortWord) :
    (s.setInbox ws).cur = s.cur := rfl
@[simp] theorem State.setInbox_schSt (ws : List PortWord) :
    (s.setInbox ws).schSt = s.schSt := rfl
@[simp] theorem State.setInbox_err (ws : List PortWord) :
    (s.setInbox ws).err = s.err := rfl
@[simp] theorem State.setInbox_urunCnt (ws : List PortWord) :
    (s.setInbox ws).urunCnt = s.urunCnt := rfl
@[simp] theorem State.setInbox_ferrCnt (ws : List PortWord) :
    (s.setInbox ws).ferrCnt = s.ferrCnt := rfl
@[simp] theorem State.setInbox_qovfCnt (ws : List PortWord) :
    (s.setInbox ws).qovfCnt = s.qovfCnt := rfl
@[simp] theorem State.setInbox_evout (ws : List PortWord) :
    (s.setInbox ws).evout = s.evout := rfl
@[simp] theorem State.setInbox_blkout (ws : List PortWord) :
    (s.setInbox ws).blkout = s.blkout := rfl
@[simp] theorem State.setInbox_resp (ws : List PortWord) :
    (s.setInbox ws).resp = s.resp := rfl
@[simp] theorem State.setInbox_inbox (ws : List PortWord) :
    (s.setInbox ws).inbox = ws := rfl

end Sys2Proof.Machine
end

