-- ==== Sys2Proof/Laws/Ops.lean ====
section
/-! SUPPORT. What each shared operation can do, said once: `raise`, the event queue, the decoder's cases, the delay line, block
buffers, and the fetch. Later proofs cite these instead of unfolding the operations. -/

namespace Sys2Proof.Machine

variable (s : State)

/-! ## raise -/

@[simp] theorem raise_cfg (c : Condition) : (raise c s).cfg = s.cfg := rfl
@[simp] theorem raise_wp (c : Condition) : (raise c s).wp = s.wp := rfl
@[simp] theorem raise_dofs (c : Condition) : (raise c s).dofs = s.dofs := rfl
@[simp] theorem raise_gain (c : Condition) : (raise c s).gain = s.gain := rfl
@[simp] theorem raise_buf (c : Condition) : (raise c s).buf = s.buf := rfl
@[simp] theorem raise_mdSt (c : Condition) : (raise c s).mdSt = s.mdSt := rfl
@[simp] theorem raise_rsv (c : Condition) : (raise c s).rsv = s.rsv := rfl
@[simp] theorem raise_rs (c : Condition) : (raise c s).rs = s.rs := rfl
@[simp] theorem raise_d1 (c : Condition) : (raise c s).d1 = s.d1 := rfl
@[simp] theorem raise_mq (c : Condition) : (raise c s).mq = s.mq := rfl
@[simp] theorem raise_mqHead (c : Condition) : (raise c s).mqHead = s.mqHead := rfl
@[simp] theorem raise_mqCnt (c : Condition) : (raise c s).mqCnt = s.mqCnt := rfl
@[simp] theorem raise_blk (c : Condition) : (raise c s).blk = s.blk := rfl
@[simp] theorem raise_own (c : Condition) : (raise c s).own = s.own := rfl
@[simp] theorem raise_cur (c : Condition) : (raise c s).cur = s.cur := rfl
@[simp] theorem raise_schSt (c : Condition) : (raise c s).schSt = s.schSt := rfl
@[simp] theorem raise_err (c : Condition) : (raise c s).err = s.err ||| c.flag := rfl
@[simp] theorem raise_urunCnt (c : Condition) : (raise c s).urunCnt = urunAfter c s.urunCnt := rfl
@[simp] theorem raise_ferrCnt (c : Condition) : (raise c s).ferrCnt = ferrAfter c s.ferrCnt := rfl
@[simp] theorem raise_qovfCnt (c : Condition) : (raise c s).qovfCnt = qovfAfter c s.qovfCnt := rfl
@[simp] theorem raise_evout (c : Condition) : (raise c s).evout = s.evout := rfl
@[simp] theorem raise_blkout (c : Condition) : (raise c s).blkout = s.blkout := rfl
@[simp] theorem raise_resp (c : Condition) : (raise c s).resp = s.resp := rfl
@[simp] theorem raise_inbox (c : Condition) : (raise c s).inbox = s.inbox := rfl

@[simp] theorem raiseIf_true (c : Condition) : raiseIf true c s = raise c s := rfl

@[simp] theorem raiseIf_false (c : Condition) : raiseIf false c s = s := rfl

@[simp] theorem raiseIf_cfg (b : Bool) (c : Condition) : (raiseIf b c s).cfg = s.cfg := by
  cases b <;> rfl
@[simp] theorem raiseIf_wp (b : Bool) (c : Condition) : (raiseIf b c s).wp = s.wp := by
  cases b <;> rfl
@[simp] theorem raiseIf_dofs (b : Bool) (c : Condition) : (raiseIf b c s).dofs = s.dofs := by
  cases b <;> rfl
@[simp] theorem raiseIf_gain (b : Bool) (c : Condition) : (raiseIf b c s).gain = s.gain := by
  cases b <;> rfl
@[simp] theorem raiseIf_buf (b : Bool) (c : Condition) : (raiseIf b c s).buf = s.buf := by
  cases b <;> rfl
@[simp] theorem raiseIf_mdSt (b : Bool) (c : Condition) : (raiseIf b c s).mdSt = s.mdSt := by
  cases b <;> rfl
@[simp] theorem raiseIf_rsv (b : Bool) (c : Condition) : (raiseIf b c s).rsv = s.rsv := by
  cases b <;> rfl
@[simp] theorem raiseIf_rs (b : Bool) (c : Condition) : (raiseIf b c s).rs = s.rs := by
  cases b <;> rfl
@[simp] theorem raiseIf_d1 (b : Bool) (c : Condition) : (raiseIf b c s).d1 = s.d1 := by
  cases b <;> rfl
@[simp] theorem raiseIf_mq (b : Bool) (c : Condition) : (raiseIf b c s).mq = s.mq := by
  cases b <;> rfl
@[simp] theorem raiseIf_mqHead (b : Bool) (c : Condition) : (raiseIf b c s).mqHead = s.mqHead := by
  cases b <;> rfl
@[simp] theorem raiseIf_mqCnt (b : Bool) (c : Condition) : (raiseIf b c s).mqCnt = s.mqCnt := by
  cases b <;> rfl
@[simp] theorem raiseIf_blk (b : Bool) (c : Condition) : (raiseIf b c s).blk = s.blk := by
  cases b <;> rfl
@[simp] theorem raiseIf_own (b : Bool) (c : Condition) : (raiseIf b c s).own = s.own := by
  cases b <;> rfl
@[simp] theorem raiseIf_cur (b : Bool) (c : Condition) : (raiseIf b c s).cur = s.cur := by
  cases b <;> rfl
@[simp] theorem raiseIf_schSt (b : Bool) (c : Condition) : (raiseIf b c s).schSt = s.schSt := by
  cases b <;> rfl
@[simp] theorem raiseIf_evout (b : Bool) (c : Condition) : (raiseIf b c s).evout = s.evout := by
  cases b <;> rfl
@[simp] theorem raiseIf_blkout (b : Bool) (c : Condition) : (raiseIf b c s).blkout = s.blkout := by
  cases b <;> rfl
@[simp] theorem raiseIf_resp (b : Bool) (c : Condition) : (raiseIf b c s).resp = s.resp := by
  cases b <;> rfl
@[simp] theorem raiseIf_inbox (b : Bool) (c : Condition) : (raiseIf b c s).inbox = s.inbox := by
  cases b <;> rfl

@[simp] theorem raiseIf_framing_urunCnt (b : Bool) : (raiseIf b .framingError s).urunCnt = s.urunCnt := by
  cases b <;> rfl

@[simp] theorem raiseIf_framing_qovfCnt (b : Bool) : (raiseIf b .framingError s).qovfCnt = s.qovfCnt := by
  cases b <;> rfl

/-! ## The event queue -/

/-- MQ.PUSH on a queue with room: the event goes into the first free slot and nothing else changes (R191). -/
theorem mqPush_room {s : State} (ev : EventWord) (h : s.mqCnt ≠ s.cfg.midiqCap) :
    mqPush ev s = { s with
      mq := s.mq.write ((s.mqHead + s.mqCnt) % s.cfg.midiqCap) ev
      mqCnt := s.mqCnt + 1 } := by
  simp only [mqPush, mqMakeRoom, if_neg h, emod_add]
  rfl

/-- MQ.PUSH on a full queue: the head moves past the oldest event, the overflow is recorded, the event is stored (R191). -/
theorem mqPush_full {s : State} (ev : EventWord) (h : s.mqCnt = s.cfg.midiqCap) :
    mqPush ev s = { raise .queueOverflow s with
      mq := s.mq.write (((s.mqHead + 1) % s.cfg.midiqCap + (s.mqCnt - 1)) % s.cfg.midiqCap) ev
      mqHead := (s.mqHead + 1) % s.cfg.midiqCap
      mqCnt := s.mqCnt - 1 + 1 } := by
  simp only [mqPush, mqMakeRoom, if_pos h, State.setMqCursors_mq, State.setMqCursors_mqHead,
    State.setMqCursors_mqCnt, State.setMqCursors_cfg, raise_mq, raise_cfg, emod_add]
  have h1 : emod ((s.mqHead : Int) + 1) s.cfg.midiqCap = (s.mqHead + 1) % s.cfg.midiqCap := emod_add s.mqHead 1 _
  rw [h1]
  rfl

theorem queued_length : (queued s).length = s.mqCnt := by simp [queued]

/-- The j-th queued event, oldest first (10_state.md R29). -/
theorem queued_getElem (j : Nat) (h : j < (queued s).length) :
    (queued s)[j] = s.mq.read ((s.mqHead + j) % s.cfg.midiqCap) := by
  simp [queued, emod_add]

/-- MQ.DRAIN leaves the queue empty and its head past what was taken (R193). -/
theorem mqDrain_eq : mqDrain s = { s with mqHead := (s.mqHead + s.mqCnt) % s.cfg.midiqCap, mqCnt := 0 } := by
  unfold mqDrain State.setMqCursors
  rw [emod_add]

@[simp] theorem mqPush_cfg (ev : EventWord) : (mqPush ev s).cfg = s.cfg := by
  unfold mqPush mqMakeRoom
  split <;> rfl
@[simp] theorem mqPush_wp (ev : EventWord) : (mqPush ev s).wp = s.wp := by
  unfold mqPush mqMakeRoom
  split <;> rfl
@[simp] theorem mqPush_dofs (ev : EventWord) : (mqPush ev s).dofs = s.dofs := by
  unfold mqPush mqMakeRoom
  split <;> rfl
@[simp] theorem mqPush_gain (ev : EventWord) : (mqPush ev s).gain = s.gain := by
  unfold mqPush mqMakeRoom
  split <;> rfl
@[simp] theorem mqPush_buf (ev : EventWord) : (mqPush ev s).buf = s.buf := by
  unfold mqPush mqMakeRoom
  split <;> rfl
@[simp] theorem mqPush_mdSt (ev : EventWord) : (mqPush ev s).mdSt = s.mdSt := by
  unfold mqPush mqMakeRoom
  split <;> rfl
@[simp] theorem mqPush_rsv (ev : EventWord) : (mqPush ev s).rsv = s.rsv := by
  unfold mqPush mqMakeRoom
  split <;> rfl
@[simp] theorem mqPush_rs (ev : EventWord) : (mqPush ev s).rs = s.rs := by
  unfold mqPush mqMakeRoom
  split <;> rfl
@[simp] theorem mqPush_d1 (ev : EventWord) : (mqPush ev s).d1 = s.d1 := by
  unfold mqPush mqMakeRoom
  split <;> rfl
@[simp] theorem mqPush_blk (ev : EventWord) : (mqPush ev s).blk = s.blk := by
  unfold mqPush mqMakeRoom
  split <;> rfl
@[simp] theorem mqPush_own (ev : EventWord) : (mqPush ev s).own = s.own := by
  unfold mqPush mqMakeRoom
  split <;> rfl
@[simp] theorem mqPush_cur (ev : EventWord) : (mqPush ev s).cur = s.cur := by
  unfold mqPush mqMakeRoom
  split <;> rfl
@[simp] theorem mqPush_schSt (ev : EventWord) : (mqPush ev s).schSt = s.schSt := by
  unfold mqPush mqMakeRoom
  split <;> rfl
@[simp] theorem mqPush_urunCnt (ev : EventWord) : (mqPush ev s).urunCnt = s.urunCnt := by
  unfold mqPush mqMakeRoom
  split <;> rfl
@[simp] theorem mqPush_ferrCnt (ev : EventWord) : (mqPush ev s).ferrCnt = s.ferrCnt := by
  unfold mqPush mqMakeRoom
  split <;> rfl
@[simp] theorem mqPush_evout (ev : EventWord) : (mqPush ev s).evout = s.evout := by
  unfold mqPush mqMakeRoom
  split <;> rfl
@[simp] theorem mqPush_blkout (ev : EventWord) : (mqPush ev s).blkout = s.blkout := by
  unfold mqPush mqMakeRoom
  split <;> rfl
@[simp] theorem mqPush_resp (ev : EventWord) : (mqPush ev s).resp = s.resp := by
  unfold mqPush mqMakeRoom
  split <;> rfl
@[simp] theorem mqPush_inbox (ev : EventWord) : (mqPush ev s).inbox = s.inbox := by
  unfold mqPush mqMakeRoom
  split <;> rfl

/-! ## The decoder's cases touch nothing of the scheduler, the delay line or the host port (R148) -/

@[simp] theorem channelStatus_cfg (b : Byte) : (channelStatus b s).cfg = s.cfg := by
  simp [channelStatus]
@[simp] theorem channelStatus_wp (b : Byte) : (channelStatus b s).wp = s.wp := by
  simp [channelStatus]
@[simp] theorem channelStatus_dofs (b : Byte) : (channelStatus b s).dofs = s.dofs := by
  simp [channelStatus]
@[simp] theorem channelStatus_gain (b : Byte) : (channelStatus b s).gain = s.gain := by
  simp [channelStatus]
@[simp] theorem channelStatus_buf (b : Byte) : (channelStatus b s).buf = s.buf := by
  simp [channelStatus]
@[simp] theorem channelStatus_blk (b : Byte) : (channelStatus b s).blk = s.blk := by
  simp [channelStatus]
@[simp] theorem channelStatus_own (b : Byte) : (channelStatus b s).own = s.own := by
  simp [channelStatus]
@[simp] theorem channelStatus_cur (b : Byte) : (channelStatus b s).cur = s.cur := by
  simp [channelStatus]
@[simp] theorem channelStatus_schSt (b : Byte) : (channelStatus b s).schSt = s.schSt := by
  simp [channelStatus]
@[simp] theorem channelStatus_urunCnt (b : Byte) : (channelStatus b s).urunCnt = s.urunCnt := by
  simp [channelStatus]
@[simp] theorem channelStatus_evout (b : Byte) : (channelStatus b s).evout = s.evout := by
  simp [channelStatus]
@[simp] theorem channelStatus_blkout (b : Byte) : (channelStatus b s).blkout = s.blkout := by
  simp [channelStatus]
@[simp] theorem channelStatus_resp (b : Byte) : (channelStatus b s).resp = s.resp := by
  simp [channelStatus]
@[simp] theorem channelStatus_inbox (b : Byte) : (channelStatus b s).inbox = s.inbox := by
  simp [channelStatus]

@[simp] theorem systemByte_cfg : (systemByte s).cfg = s.cfg := by
  simp [systemByte]
@[simp] theorem systemByte_wp : (systemByte s).wp = s.wp := by
  simp [systemByte]
@[simp] theorem systemByte_dofs : (systemByte s).dofs = s.dofs := by
  simp [systemByte]
@[simp] theorem systemByte_gain : (systemByte s).gain = s.gain := by
  simp [systemByte]
@[simp] theorem systemByte_buf : (systemByte s).buf = s.buf := by
  simp [systemByte]
@[simp] theorem systemByte_blk : (systemByte s).blk = s.blk := by
  simp [systemByte]
@[simp] theorem systemByte_own : (systemByte s).own = s.own := by
  simp [systemByte]
@[simp] theorem systemByte_cur : (systemByte s).cur = s.cur := by
  simp [systemByte]
@[simp] theorem systemByte_schSt : (systemByte s).schSt = s.schSt := by
  simp [systemByte]
@[simp] theorem systemByte_urunCnt : (systemByte s).urunCnt = s.urunCnt := by
  simp [systemByte]
@[simp] theorem systemByte_evout : (systemByte s).evout = s.evout := by
  simp [systemByte]
@[simp] theorem systemByte_blkout : (systemByte s).blkout = s.blkout := by
  simp [systemByte]
@[simp] theorem systemByte_resp : (systemByte s).resp = s.resp := by
  simp [systemByte]
@[simp] theorem systemByte_inbox : (systemByte s).inbox = s.inbox := by
  simp [systemByte]

@[simp] theorem dataByte_cfg (v : BitVec 7) : (dataByte v s).cfg = s.cfg := by
  unfold dataByte secondDataByte firstDataByte
  repeat' split
  all_goals first | rfl | simp
@[simp] theorem dataByte_wp (v : BitVec 7) : (dataByte v s).wp = s.wp := by
  unfold dataByte secondDataByte firstDataByte
  repeat' split
  all_goals first | rfl | simp
@[simp] theorem dataByte_dofs (v : BitVec 7) : (dataByte v s).dofs = s.dofs := by
  unfold dataByte secondDataByte firstDataByte
  repeat' split
  all_goals first | rfl | simp
@[simp] theorem dataByte_gain (v : BitVec 7) : (dataByte v s).gain = s.gain := by
  unfold dataByte secondDataByte firstDataByte
  repeat' split
  all_goals first | rfl | simp
@[simp] theorem dataByte_buf (v : BitVec 7) : (dataByte v s).buf = s.buf := by
  unfold dataByte secondDataByte firstDataByte
  repeat' split
  all_goals first | rfl | simp
@[simp] theorem dataByte_blk (v : BitVec 7) : (dataByte v s).blk = s.blk := by
  unfold dataByte secondDataByte firstDataByte
  repeat' split
  all_goals first | rfl | simp
@[simp] theorem dataByte_own (v : BitVec 7) : (dataByte v s).own = s.own := by
  unfold dataByte secondDataByte firstDataByte
  repeat' split
  all_goals first | rfl | simp
@[simp] theorem dataByte_cur (v : BitVec 7) : (dataByte v s).cur = s.cur := by
  unfold dataByte secondDataByte firstDataByte
  repeat' split
  all_goals first | rfl | simp
@[simp] theorem dataByte_schSt (v : BitVec 7) : (dataByte v s).schSt = s.schSt := by
  unfold dataByte secondDataByte firstDataByte
  repeat' split
  all_goals first | rfl | simp
@[simp] theorem dataByte_urunCnt (v : BitVec 7) : (dataByte v s).urunCnt = s.urunCnt := by
  unfold dataByte secondDataByte firstDataByte
  repeat' split
  all_goals first | rfl | simp
@[simp] theorem dataByte_evout (v : BitVec 7) : (dataByte v s).evout = s.evout := by
  unfold dataByte secondDataByte firstDataByte
  repeat' split
  all_goals first | rfl | simp
@[simp] theorem dataByte_blkout (v : BitVec 7) : (dataByte v s).blkout = s.blkout := by
  unfold dataByte secondDataByte firstDataByte
  repeat' split
  all_goals first | rfl | simp
@[simp] theorem dataByte_resp (v : BitVec 7) : (dataByte v s).resp = s.resp := by
  unfold dataByte secondDataByte firstDataByte
  repeat' split
  all_goals first | rfl | simp
@[simp] theorem dataByte_inbox (v : BitVec 7) : (dataByte v s).inbox = s.inbox := by
  unfold dataByte secondDataByte firstDataByte
  repeat' split
  all_goals first | rfl | simp

/-! ## The delay line -/

@[simp] theorem dlRun_nil (q wp d g i : Nat) (buf : Memory 16) : dlRun q wp d g i [] buf = ([], buf) := rfl

/-- One sample, then the rest of the block on the buffer that sample left (R163). -/
theorem dlRun_cons (q wp d g i : Nat) (x : Sample) (xs : List Sample) (buf : Memory 16) :
    dlRun q wp d g i (x :: xs) buf =
      ((dlSample q wp d g i x buf).1 :: (dlRun q wp d g (i + 1) xs (dlSample q wp d g i x buf).2).1,
        (dlRun q wp d g (i + 1) xs (dlSample q wp d g i x buf).2).2) := rfl

/-- The output block is as long as the input block. -/
@[simp] theorem dlRun_length (q wp d g i : Nat) (xs : List Sample) (buf : Memory 16) :
    (dlRun q wp d g i xs buf).1.length = xs.length := by
  induction xs generalizing i buf with
  | nil => rfl
  | cons x xs ih => rw [dlRun_cons, List.length_cons, List.length_cons, ih]

theorem dlSample_wf (q wp d g i : Nat) (x : Sample) {buf : Memory 16} (h : buf.wf = true) :
    Memory.wf (dlSample q wp d g i x buf).2 = true :=
  Memory.write_wf h _ _

theorem dlSample_within {q : Nat} (hq : 0 < q) (wp d g i : Nat) (x : Sample) {buf : Memory 16}
    (h : buf.within q = true) : Memory.within (dlSample q wp d g i x buf).2 q = true :=
  Memory.write_within h (emod_lt _ hq) _

/-- DL.PROCESS keeps the delay buffer's canonical form. -/
theorem dlRun_wf (q wp d g i : Nat) (xs : List Sample) {buf : Memory 16} (h : buf.wf = true) :
    Memory.wf (dlRun q wp d g i xs buf).2 = true := by
  induction xs generalizing i buf with
  | nil => exact h
  | cons x xs ih => exact ih (i + 1) (dlSample_wf q wp d g i x h)

/-- DL.PROCESS writes no element outside the delay buffer. -/
theorem dlRun_within {q : Nat} (hq : 0 < q) (wp d g i : Nat) (xs : List Sample) {buf : Memory 16}
    (h : buf.within q = true) : Memory.within (dlRun q wp d g i xs buf).2 q = true := by
  induction xs generalizing i buf with
  | nil => exact h
  | cons x xs ih => exact ih (i + 1) (dlSample_within hq wp d g i x h)

theorem nextWp_toNat (c : Config) (wp : U16) : (nextWp c wp).toNat = (wp.toNat + c.B) % c.Q := by
  have hlt := Nat.mod_lt (wp.toNat + c.B) (show 0 < c.Q by have := c.two_le_Q; omega)
  have hq := c.Q_lt
  rw [nextWp, emod_add, BitVec.toNat_ofNat, Nat.mod_eq_of_lt (by omega)]

/-- The tap index without a negative number in it, for the offsets of invariant I-b (00_scope.md R14). -/
theorem tapIndex_eq {q d : Nat} (wp i : Nat) (hd : d ≤ q) : tapIndex q wp d i = (wp + i + (q - d)) % q := by
  unfold tapIndex
  rw [← emod_natCast, ← emod_add_modulus]
  congr 1
  omega

theorem writeIndex_eq (q wp i : Nat) : writeIndex q wp i = (wp + i) % q := emod_add wp i q

/-! ## Block buffers -/

@[simp] theorem samplesOf_length (k : Nat) : (samplesOf s k).length = s.cfg.B := by simp [samplesOf]

theorem samplesOf_getElem (k i : Nat) (h : i < (samplesOf s k).length) : (samplesOf s k)[i] = (blockOf s k).read i := by
  unfold samplesOf
  exact Memory.readBlock_getElem _ _ _ _

theorem blockOf_storeBlock_same {k : Nat} (r : List Sample) (h : k < s.blk.length) :
    blockOf (storeBlock k r s) k = (blockOf s k).writeFrom 0 r := by
  simp [blockOf, storeBlock, h]

theorem blockOf_storeBlock_ne {j k : Nat} (r : List Sample) (h : j ≠ k) :
    blockOf (storeBlock k r s) j = blockOf s j := by
  simp [blockOf, storeBlock, List.getElem?_set_ne (Ne.symm h)]

@[simp] theorem storeBlock_cfg (k : Nat) (r : List Sample) : (storeBlock k r s).cfg = s.cfg := rfl
@[simp] theorem storeBlock_wp (k : Nat) (r : List Sample) : (storeBlock k r s).wp = s.wp := rfl
@[simp] theorem storeBlock_dofs (k : Nat) (r : List Sample) : (storeBlock k r s).dofs = s.dofs := rfl
@[simp] theorem storeBlock_gain (k : Nat) (r : List Sample) : (storeBlock k r s).gain = s.gain := rfl
@[simp] theorem storeBlock_buf (k : Nat) (r : List Sample) : (storeBlock k r s).buf = s.buf := rfl
@[simp] theorem storeBlock_mdSt (k : Nat) (r : List Sample) : (storeBlock k r s).mdSt = s.mdSt := rfl
@[simp] theorem storeBlock_rsv (k : Nat) (r : List Sample) : (storeBlock k r s).rsv = s.rsv := rfl
@[simp] theorem storeBlock_rs (k : Nat) (r : List Sample) : (storeBlock k r s).rs = s.rs := rfl
@[simp] theorem storeBlock_d1 (k : Nat) (r : List Sample) : (storeBlock k r s).d1 = s.d1 := rfl
@[simp] theorem storeBlock_mq (k : Nat) (r : List Sample) : (storeBlock k r s).mq = s.mq := rfl
@[simp] theorem storeBlock_mqHead (k : Nat) (r : List Sample) : (storeBlock k r s).mqHead = s.mqHead := rfl
@[simp] theorem storeBlock_mqCnt (k : Nat) (r : List Sample) : (storeBlock k r s).mqCnt = s.mqCnt := rfl
@[simp] theorem storeBlock_own (k : Nat) (r : List Sample) : (storeBlock k r s).own = s.own := rfl
@[simp] theorem storeBlock_cur (k : Nat) (r : List Sample) : (storeBlock k r s).cur = s.cur := rfl
@[simp] theorem storeBlock_schSt (k : Nat) (r : List Sample) : (storeBlock k r s).schSt = s.schSt := rfl
@[simp] theorem storeBlock_err (k : Nat) (r : List Sample) : (storeBlock k r s).err = s.err := rfl
@[simp] theorem storeBlock_urunCnt (k : Nat) (r : List Sample) : (storeBlock k r s).urunCnt = s.urunCnt := rfl
@[simp] theorem storeBlock_ferrCnt (k : Nat) (r : List Sample) : (storeBlock k r s).ferrCnt = s.ferrCnt := rfl
@[simp] theorem storeBlock_qovfCnt (k : Nat) (r : List Sample) : (storeBlock k r s).qovfCnt = s.qovfCnt := rfl
@[simp] theorem storeBlock_evout (k : Nat) (r : List Sample) : (storeBlock k r s).evout = s.evout := rfl
@[simp] theorem storeBlock_blkout (k : Nat) (r : List Sample) : (storeBlock k r s).blkout = s.blkout := rfl
@[simp] theorem storeBlock_resp (k : Nat) (r : List Sample) : (storeBlock k r s).resp = s.resp := rfl
@[simp] theorem storeBlock_inbox (k : Nat) (r : List Sample) : (storeBlock k r s).inbox = s.inbox := rfl

theorem ownerOf_setOwner_same {k : Nat} (o : Owner) (h : k < s.own.length) : ownerOf (s.setOwner k o) k = o := by
  simp [ownerOf, h]

theorem ownerOf_setOwner_ne {j k : Nat} (o : Owner) (h : j ≠ k) : ownerOf (s.setOwner k o) j = ownerOf s j := by
  simp [ownerOf, List.getElem?_set_ne (Ne.symm h)]

/-! ## The host port -/

/-- `respond` puts one response word on RESP and changes nothing else. -/
theorem respond_eq (err : Bool) (data : U16) : respond err data s = { s with resp := s.resp ++ [responseWord err data] } := rfl

/-! ## One lemma per field of the remaining operations -/

@[simp] theorem mqDrain_cfg : (mqDrain s).cfg = s.cfg := rfl
@[simp] theorem mqDrain_wp : (mqDrain s).wp = s.wp := rfl
@[simp] theorem mqDrain_dofs : (mqDrain s).dofs = s.dofs := rfl
@[simp] theorem mqDrain_gain : (mqDrain s).gain = s.gain := rfl
@[simp] theorem mqDrain_buf : (mqDrain s).buf = s.buf := rfl
@[simp] theorem mqDrain_mdSt : (mqDrain s).mdSt = s.mdSt := rfl
@[simp] theorem mqDrain_rsv : (mqDrain s).rsv = s.rsv := rfl
@[simp] theorem mqDrain_rs : (mqDrain s).rs = s.rs := rfl
@[simp] theorem mqDrain_d1 : (mqDrain s).d1 = s.d1 := rfl
@[simp] theorem mqDrain_mq : (mqDrain s).mq = s.mq := rfl
@[simp] theorem mqDrain_mqHead : (mqDrain s).mqHead = emod ((s.mqHead : Int) + s.mqCnt) s.cfg.midiqCap := rfl
@[simp] theorem mqDrain_mqCnt : (mqDrain s).mqCnt = 0 := rfl
@[simp] theorem mqDrain_blk : (mqDrain s).blk = s.blk := rfl
@[simp] theorem mqDrain_own : (mqDrain s).own = s.own := rfl
@[simp] theorem mqDrain_cur : (mqDrain s).cur = s.cur := rfl
@[simp] theorem mqDrain_schSt : (mqDrain s).schSt = s.schSt := rfl
@[simp] theorem mqDrain_err : (mqDrain s).err = s.err := rfl
@[simp] theorem mqDrain_urunCnt : (mqDrain s).urunCnt = s.urunCnt := rfl
@[simp] theorem mqDrain_ferrCnt : (mqDrain s).ferrCnt = s.ferrCnt := rfl
@[simp] theorem mqDrain_qovfCnt : (mqDrain s).qovfCnt = s.qovfCnt := rfl
@[simp] theorem mqDrain_evout : (mqDrain s).evout = s.evout := rfl
@[simp] theorem mqDrain_blkout : (mqDrain s).blkout = s.blkout := rfl
@[simp] theorem mqDrain_resp : (mqDrain s).resp = s.resp := rfl
@[simp] theorem mqDrain_inbox : (mqDrain s).inbox = s.inbox := rfl

@[simp] theorem respond_cfg (err : Bool) (data : U16) : (respond err data s).cfg = s.cfg := rfl
@[simp] theorem respond_wp (err : Bool) (data : U16) : (respond err data s).wp = s.wp := rfl
@[simp] theorem respond_dofs (err : Bool) (data : U16) : (respond err data s).dofs = s.dofs := rfl
@[simp] theorem respond_gain (err : Bool) (data : U16) : (respond err data s).gain = s.gain := rfl
@[simp] theorem respond_buf (err : Bool) (data : U16) : (respond err data s).buf = s.buf := rfl
@[simp] theorem respond_mdSt (err : Bool) (data : U16) : (respond err data s).mdSt = s.mdSt := rfl
@[simp] theorem respond_rsv (err : Bool) (data : U16) : (respond err data s).rsv = s.rsv := rfl
@[simp] theorem respond_rs (err : Bool) (data : U16) : (respond err data s).rs = s.rs := rfl
@[simp] theorem respond_d1 (err : Bool) (data : U16) : (respond err data s).d1 = s.d1 := rfl
@[simp] theorem respond_mq (err : Bool) (data : U16) : (respond err data s).mq = s.mq := rfl
@[simp] theorem respond_mqHead (err : Bool) (data : U16) : (respond err data s).mqHead = s.mqHead := rfl
@[simp] theorem respond_mqCnt (err : Bool) (data : U16) : (respond err data s).mqCnt = s.mqCnt := rfl
@[simp] theorem respond_blk (err : Bool) (data : U16) : (respond err data s).blk = s.blk := rfl
@[simp] theorem respond_own (err : Bool) (data : U16) : (respond err data s).own = s.own := rfl
@[simp] theorem respond_cur (err : Bool) (data : U16) : (respond err data s).cur = s.cur := rfl
@[simp] theorem respond_schSt (err : Bool) (data : U16) : (respond err data s).schSt = s.schSt := rfl
@[simp] theorem respond_err (err : Bool) (data : U16) : (respond err data s).err = s.err := rfl
@[simp] theorem respond_urunCnt (err : Bool) (data : U16) : (respond err data s).urunCnt = s.urunCnt := rfl
@[simp] theorem respond_ferrCnt (err : Bool) (data : U16) : (respond err data s).ferrCnt = s.ferrCnt := rfl
@[simp] theorem respond_qovfCnt (err : Bool) (data : U16) : (respond err data s).qovfCnt = s.qovfCnt := rfl
@[simp] theorem respond_evout (err : Bool) (data : U16) : (respond err data s).evout = s.evout := rfl
@[simp] theorem respond_blkout (err : Bool) (data : U16) : (respond err data s).blkout = s.blkout := rfl
@[simp] theorem respond_resp (err : Bool) (data : U16) : (respond err data s).resp = s.resp ++ [responseWord err data] := rfl
@[simp] theorem respond_inbox (err : Bool) (data : U16) : (respond err data s).inbox = s.inbox := rfl

@[simp] theorem answerReserved_cfg : (answerReserved s).cfg = s.cfg := rfl
@[simp] theorem answerReserved_wp : (answerReserved s).wp = s.wp := rfl
@[simp] theorem answerReserved_dofs : (answerReserved s).dofs = s.dofs := rfl
@[simp] theorem answerReserved_gain : (answerReserved s).gain = s.gain := rfl
@[simp] theorem answerReserved_buf : (answerReserved s).buf = s.buf := rfl
@[simp] theorem answerReserved_mdSt : (answerReserved s).mdSt = s.mdSt := rfl
@[simp] theorem answerReserved_rsv : (answerReserved s).rsv = s.rsv := rfl
@[simp] theorem answerReserved_rs : (answerReserved s).rs = s.rs := rfl
@[simp] theorem answerReserved_d1 : (answerReserved s).d1 = s.d1 := rfl
@[simp] theorem answerReserved_mq : (answerReserved s).mq = s.mq := rfl
@[simp] theorem answerReserved_mqHead : (answerReserved s).mqHead = s.mqHead := rfl
@[simp] theorem answerReserved_mqCnt : (answerReserved s).mqCnt = s.mqCnt := rfl
@[simp] theorem answerReserved_blk : (answerReserved s).blk = s.blk := rfl
@[simp] theorem answerReserved_own : (answerReserved s).own = s.own := rfl
@[simp] theorem answerReserved_cur : (answerReserved s).cur = s.cur := rfl
@[simp] theorem answerReserved_schSt : (answerReserved s).schSt = s.schSt := rfl
@[simp] theorem answerReserved_err : (answerReserved s).err = s.err := rfl
@[simp] theorem answerReserved_urunCnt : (answerReserved s).urunCnt = s.urunCnt := rfl
@[simp] theorem answerReserved_ferrCnt : (answerReserved s).ferrCnt = s.ferrCnt := rfl
@[simp] theorem answerReserved_qovfCnt : (answerReserved s).qovfCnt = s.qovfCnt := rfl
@[simp] theorem answerReserved_evout : (answerReserved s).evout = s.evout := rfl
@[simp] theorem answerReserved_blkout : (answerReserved s).blkout = s.blkout := rfl
@[simp] theorem answerReserved_resp : (answerReserved s).resp = s.resp ++ [responseWord true 0] := rfl
@[simp] theorem answerReserved_inbox : (answerReserved s).inbox = s.inbox := rfl

@[simp] theorem dlProcess_cfg (xs : List Sample) : ((dlProcess xs s).2).cfg = s.cfg := rfl
@[simp] theorem dlProcess_wp (xs : List Sample) : ((dlProcess xs s).2).wp = nextWp s.cfg s.wp := rfl
@[simp] theorem dlProcess_dofs (xs : List Sample) : ((dlProcess xs s).2).dofs = s.dofs := rfl
@[simp] theorem dlProcess_gain (xs : List Sample) : ((dlProcess xs s).2).gain = s.gain := rfl
@[simp] theorem dlProcess_buf (xs : List Sample) : ((dlProcess xs s).2).buf = (dlRun s.cfg.Q s.wp.toNat s.dofs.toNat s.gain.toNat 0 xs s.buf).2 := rfl
@[simp] theorem dlProcess_mdSt (xs : List Sample) : ((dlProcess xs s).2).mdSt = s.mdSt := rfl
@[simp] theorem dlProcess_rsv (xs : List Sample) : ((dlProcess xs s).2).rsv = s.rsv := rfl
@[simp] theorem dlProcess_rs (xs : List Sample) : ((dlProcess xs s).2).rs = s.rs := rfl
@[simp] theorem dlProcess_d1 (xs : List Sample) : ((dlProcess xs s).2).d1 = s.d1 := rfl
@[simp] theorem dlProcess_mq (xs : List Sample) : ((dlProcess xs s).2).mq = s.mq := rfl
@[simp] theorem dlProcess_mqHead (xs : List Sample) : ((dlProcess xs s).2).mqHead = s.mqHead := rfl
@[simp] theorem dlProcess_mqCnt (xs : List Sample) : ((dlProcess xs s).2).mqCnt = s.mqCnt := rfl
@[simp] theorem dlProcess_blk (xs : List Sample) : ((dlProcess xs s).2).blk = s.blk := rfl
@[simp] theorem dlProcess_own (xs : List Sample) : ((dlProcess xs s).2).own = s.own := rfl
@[simp] theorem dlProcess_cur (xs : List Sample) : ((dlProcess xs s).2).cur = s.cur := rfl
@[simp] theorem dlProcess_schSt (xs : List Sample) : ((dlProcess xs s).2).schSt = s.schSt := rfl
@[simp] theorem dlProcess_err (xs : List Sample) : ((dlProcess xs s).2).err = s.err := rfl
@[simp] theorem dlProcess_urunCnt (xs : List Sample) : ((dlProcess xs s).2).urunCnt = s.urunCnt := rfl
@[simp] theorem dlProcess_ferrCnt (xs : List Sample) : ((dlProcess xs s).2).ferrCnt = s.ferrCnt := rfl
@[simp] theorem dlProcess_qovfCnt (xs : List Sample) : ((dlProcess xs s).2).qovfCnt = s.qovfCnt := rfl
@[simp] theorem dlProcess_evout (xs : List Sample) : ((dlProcess xs s).2).evout = s.evout := rfl
@[simp] theorem dlProcess_blkout (xs : List Sample) : ((dlProcess xs s).2).blkout = s.blkout := rfl
@[simp] theorem dlProcess_resp (xs : List Sample) : ((dlProcess xs s).2).resp = s.resp := rfl
@[simp] theorem dlProcess_inbox (xs : List Sample) : ((dlProcess xs s).2).inbox = s.inbox := rfl

theorem dlProcess_fst (xs : List Sample) :
    (dlProcess xs s).1 = (dlRun s.cfg.Q s.wp.toNat s.dofs.toNat s.gain.toNat 0 xs s.buf).1 := rfl

@[simp] theorem resetState_cfg : (resetState s).cfg = s.cfg := rfl
@[simp] theorem resetState_wp : (resetState s).wp = (State.resetOf s.cfg).wp := rfl
@[simp] theorem resetState_dofs : (resetState s).dofs = (State.resetOf s.cfg).dofs := rfl
@[simp] theorem resetState_gain : (resetState s).gain = (State.resetOf s.cfg).gain := rfl
@[simp] theorem resetState_buf : (resetState s).buf = (State.resetOf s.cfg).buf := rfl
@[simp] theorem resetState_mdSt : (resetState s).mdSt = (State.resetOf s.cfg).mdSt := rfl
@[simp] theorem resetState_rsv : (resetState s).rsv = (State.resetOf s.cfg).rsv := rfl
@[simp] theorem resetState_rs : (resetState s).rs = (State.resetOf s.cfg).rs := rfl
@[simp] theorem resetState_d1 : (resetState s).d1 = (State.resetOf s.cfg).d1 := rfl
@[simp] theorem resetState_mq : (resetState s).mq = (State.resetOf s.cfg).mq := rfl
@[simp] theorem resetState_mqHead : (resetState s).mqHead = (State.resetOf s.cfg).mqHead := rfl
@[simp] theorem resetState_mqCnt : (resetState s).mqCnt = (State.resetOf s.cfg).mqCnt := rfl
@[simp] theorem resetState_blk : (resetState s).blk = (State.resetOf s.cfg).blk := rfl
@[simp] theorem resetState_own : (resetState s).own = (State.resetOf s.cfg).own := rfl
@[simp] theorem resetState_cur : (resetState s).cur = (State.resetOf s.cfg).cur := rfl
@[simp] theorem resetState_schSt : (resetState s).schSt = (State.resetOf s.cfg).schSt := rfl
@[simp] theorem resetState_err : (resetState s).err = (State.resetOf s.cfg).err := rfl
@[simp] theorem resetState_urunCnt : (resetState s).urunCnt = (State.resetOf s.cfg).urunCnt := rfl
@[simp] theorem resetState_ferrCnt : (resetState s).ferrCnt = (State.resetOf s.cfg).ferrCnt := rfl
@[simp] theorem resetState_qovfCnt : (resetState s).qovfCnt = (State.resetOf s.cfg).qovfCnt := rfl
@[simp] theorem resetState_evout : (resetState s).evout = s.evout := rfl
@[simp] theorem resetState_blkout : (resetState s).blkout = s.blkout := rfl
@[simp] theorem resetState_resp : (resetState s).resp = s.resp := rfl
@[simp] theorem resetState_inbox : (resetState s).inbox = s.inbox := rfl

/-! ## The fetch -/

theorem fetchWord_pending {s : State} {w : PortWord} {ws : List PortWord} (h : s.inbox = w :: ws) : fetchWord s = w := by
  simp [fetchWord, h]

theorem fetchWord_none {s : State} (h : s.inbox = []) : fetchWord s = .step s.schSt.code := by
  simp [fetchWord, h]

theorem afterFetch_pending {s : State} {w : PortWord} {ws : List PortWord} (h : s.inbox = w :: ws) :
    afterFetch s = { s with inbox := ws } := by
  simp [afterFetch, State.setInbox, h]

theorem afterFetch_none {s : State} (h : s.inbox = []) : afterFetch s = s := by
  cases s
  simp_all [afterFetch, State.setInbox]

@[simp] theorem afterFetch_cfg : (afterFetch s).cfg = s.cfg := rfl
@[simp] theorem afterFetch_wp : (afterFetch s).wp = s.wp := rfl
@[simp] theorem afterFetch_dofs : (afterFetch s).dofs = s.dofs := rfl
@[simp] theorem afterFetch_gain : (afterFetch s).gain = s.gain := rfl
@[simp] theorem afterFetch_buf : (afterFetch s).buf = s.buf := rfl
@[simp] theorem afterFetch_mdSt : (afterFetch s).mdSt = s.mdSt := rfl
@[simp] theorem afterFetch_rsv : (afterFetch s).rsv = s.rsv := rfl
@[simp] theorem afterFetch_rs : (afterFetch s).rs = s.rs := rfl
@[simp] theorem afterFetch_d1 : (afterFetch s).d1 = s.d1 := rfl
@[simp] theorem afterFetch_mq : (afterFetch s).mq = s.mq := rfl
@[simp] theorem afterFetch_mqHead : (afterFetch s).mqHead = s.mqHead := rfl
@[simp] theorem afterFetch_mqCnt : (afterFetch s).mqCnt = s.mqCnt := rfl
@[simp] theorem afterFetch_blk : (afterFetch s).blk = s.blk := rfl
@[simp] theorem afterFetch_own : (afterFetch s).own = s.own := rfl
@[simp] theorem afterFetch_cur : (afterFetch s).cur = s.cur := rfl
@[simp] theorem afterFetch_schSt : (afterFetch s).schSt = s.schSt := rfl
@[simp] theorem afterFetch_err : (afterFetch s).err = s.err := rfl
@[simp] theorem afterFetch_urunCnt : (afterFetch s).urunCnt = s.urunCnt := rfl
@[simp] theorem afterFetch_ferrCnt : (afterFetch s).ferrCnt = s.ferrCnt := rfl
@[simp] theorem afterFetch_qovfCnt : (afterFetch s).qovfCnt = s.qovfCnt := rfl
@[simp] theorem afterFetch_evout : (afterFetch s).evout = s.evout := rfl
@[simp] theorem afterFetch_blkout : (afterFetch s).blkout = s.blkout := rfl
@[simp] theorem afterFetch_resp : (afterFetch s).resp = s.resp := rfl

end Sys2Proof.Machine
end

