-- ==== Sys2Proof/Laws/Exec.lean ====
section
/-! SUPPORT. What one operation can do, said once: the cases in which `exec` answers a next state, and that state. Proofs over
all operations take `exec_effect` and `cases`, instead of unfolding `exec`. -/

namespace Sys2Proof.Machine

/-- The next states of an operation, one case for each way it can go, with what decides the case. -/
inductive Effect (s : State) : Instr → State → Prop
  | data (v : BitVec 7) : Effect s (.mdData v) (dataByte v s)
  | noteOff (chan : BitVec 4) : Effect s (.mdNoteOff chan) (channelStatus (statusByte 0b000 chan) s)
  | noteOn (chan : BitVec 4) : Effect s (.mdNoteOn chan) (channelStatus (statusByte 0b001 chan) s)
  | polyAt (chan : BitVec 4) : Effect s (.mdPolyAt chan) (channelStatus (statusByte 0b010 chan) s)
  | cc (chan : BitVec 4) : Effect s (.mdCc chan) (channelStatus (statusByte 0b011 chan) s)
  | prog (chan : BitVec 4) : Effect s (.mdProg chan) (channelStatus (statusByte 0b100 chan) s)
  | chanAt (chan : BitVec 4) : Effect s (.mdChanAt chan) (channelStatus (statusByte 0b101 chan) s)
  | pBend (chan : BitVec 4) : Effect s (.mdPBend chan) (channelStatus (statusByte 0b110 chan) s)
  | sys (low : BitVec 4) : Effect s (.mdSys low) (systemByte s)
  | offsetRefused (n : U16) (h : s.cfg.Q < n.toNat) :
      Effect s (.setOfs n) (respond true s.dofs (raise .offsetOutOfRange s))
  | offsetHeld (n : U16) (h : n.toNat ≤ s.cfg.Q) (held : U16) (hv : held.toNat = max 1 (min n.toNat (s.cfg.Q - 1))) :
      Effect s (.setOfs n) (respond false held (s.setDofs held))
  | gainHeld (g : U16) (held : U16) (hv : held.toNat = min g.toNat s.cfg.gainMax) :
      Effect s (.setGain g) (respond false held (s.setGain held))
  | view (r data : U16) (h : view s r = some data) : Effect s (.rdStat r) (respond false data s)
  | noView (r : U16) (h : Machine.view s r = none) : Effect s (.rdStat r) (respond true 0 s)
  | reserved00 (arg : U16) : Effect s (.cmdReserved00 arg) (answerReserved s)
  | reserved04 (op : BitVec 2) (arg : U16) : Effect s (.cmdReserved04 op arg) (answerReserved s)
  | reserved08 (op : BitVec 3) (arg : U16) : Effect s (.cmdReserved08 op arg) (answerReserved s)
  | reserved10 (op : BitVec 4) (arg : U16) : Effect s (.cmdReserved10 op arg) (answerReserved s)
  | reserved20 (op : BitVec 5) (arg : U16) : Effect s (.cmdReserved20 op arg) (answerReserved s)
  | reserved40 (op : BitVec 6) (arg : U16) : Effect s (.cmdReserved40 op arg) (answerReserved s)
  | reserved80 (op : BitVec 7) (arg : U16) : Effect s (.cmdReserved80 op arg) (answerReserved s)
  | tickAccepted (h : s.schSt = .idle) (ho : ownerOf s s.cur = .sched) :
      Effect s .tick (((mqDrain s).putEvout (queued s)).setSchSt .rendering)
  | tickDropped (h : ¬(s.schSt = .idle ∧ ownerOf s s.cur = .sched)) : Effect s .tick (raise .underrun s)
  | rendered (r : List Sample) (hl : r.length = s.cfg.B) (h : s.schSt = .rendering) :
      Effect s (.render r) ((storeBlock s.cur r s).setSchSt .delaying)
  | renderIgnored (r : List Sample) (hl : r.length = s.cfg.B) (h : s.schSt ≠ .rendering) : Effect s (.render r) s
  | released (k : Nat) (hk : k < s.cfg.nbuf) (h : ownerOf s k = .sink) : Effect s (.release k) (s.setOwner k .sched)
  | releaseIgnored (k : Nat) (h : ¬(k < s.cfg.nbuf ∧ ownerOf s k = .sink)) : Effect s (.release k) s
  | reset : Effect s .reset (resetState s)
  | delayed (h : s.schSt = .delaying) :
      Effect s .delay ((storeBlock s.cur (dlProcess (samplesOf s s.cur) s).1
        (dlProcess (samplesOf s s.cur) s).2).setSchSt .emitting)
  | emitted (h : s.schSt = .emitting) :
      Effect s .emit ((((s.putBlkout ⟨s.cur, samplesOf s s.cur⟩).setOwner s.cur .sink).setCur
        ((s.cur + 1) % s.cfg.nbuf)).setSchSt .idle)

/-- The offset that an accepted SETOFS holds (42_delayline.md R171). -/
theorem heldOffset_toNat (c : Config) (n : U16) :
    (BitVec.ofInt 16 (clamp n.toNat 1 ((c.Q : Int) - 1))).toNat = max 1 (min n.toNat (c.Q - 1)) := by
  have hc := c.constraints
  have hclamp : clamp n.toNat 1 ((c.Q : Int) - 1) = ((max 1 (min n.toNat (c.Q - 1)) : Nat) : Int) := by
    unfold clamp
    split_ifs <;> omega
  rw [hclamp, BitVec.ofInt_natCast, BitVec.toNat_ofNat, Nat.mod_eq_of_lt (by omega)]

/-- The gain that SETGAIN holds (42_delayline.md R173). -/
theorem heldGain_toNat (c : Config) (g : U16) :
    (BitVec.ofInt 16 (clamp g.toNat 0 c.gainMax)).toNat = min g.toNat c.gainMax := by
  have hc := c.constraints
  have hclamp : clamp g.toNat 0 c.gainMax = ((min g.toNat c.gainMax : Nat) : Int) := by
    unfold clamp
    split_ifs <;> omega
  rw [hclamp, BitVec.ofInt_natCast, BitVec.toNat_ofNat, Nat.mod_eq_of_lt (by omega)]

/-- The inversion of `exec`: a next state is the effect of one of the cases. -/
theorem exec_effect {i : Instr} {s t : State} (h : exec i s = .next t) : Effect s i t := by
  cases i with
  | mdData v => cases h; exact .data v
  | mdNoteOff chan => cases h; exact .noteOff chan
  | mdNoteOn chan => cases h; exact .noteOn chan
  | mdPolyAt chan => cases h; exact .polyAt chan
  | mdCc chan => cases h; exact .cc chan
  | mdProg chan => cases h; exact .prog chan
  | mdChanAt chan => cases h; exact .chanAt chan
  | mdPBend chan => cases h; exact .pBend chan
  | mdSys low => cases h; exact .sys low
  | setOfs n =>
    simp only [exec, execSetOfs] at h
    split_ifs at h with hn <;> cases h
    · exact .offsetRefused n hn
    · exact .offsetHeld n (Nat.not_lt.mp hn) _ (heldOffset_toNat s.cfg n)
  | setGain g => cases h; exact .gainHeld g _ (heldGain_toNat s.cfg g)
  | rdStat r =>
    simp only [exec, execRdStat] at h
    split at h <;> cases h
    · exact .view r _ ‹_›
    · exact .noView r ‹_›
  | cmdReserved00 arg => cases h; exact .reserved00 arg
  | cmdReserved04 op arg => cases h; exact .reserved04 op arg
  | cmdReserved08 op arg => cases h; exact .reserved08 op arg
  | cmdReserved10 op arg => cases h; exact .reserved10 op arg
  | cmdReserved20 op arg => cases h; exact .reserved20 op arg
  | cmdReserved40 op arg => cases h; exact .reserved40 op arg
  | cmdReserved80 op arg => cases h; exact .reserved80 op arg
  | tick =>
    simp only [exec, execTick] at h
    split_ifs at h with ht <;> cases h
    · exact .tickAccepted ht.1 ht.2
    · exact .tickDropped ht
  | render r =>
    simp only [exec, execRender] at h
    split_ifs at h with hl hs <;> cases h
    · exact .rendered r (not_not.mp hl) hs
    · exact .renderIgnored r (not_not.mp hl) hs
  | release k =>
    simp only [exec, execRelease] at h
    split_ifs at h with hk <;> cases h
    · exact .released k hk.1 hk.2
    · exact .releaseIgnored k hk
  | reset => cases h; exact .reset
  | delay =>
    simp only [exec, execDelay] at h
    split_ifs at h with hs
    cases h
    exact .delayed hs
  | emit =>
    simp only [exec, execEmit] at h
    split_ifs at h with hs
    cases h
    rw [show emod ((s.cur : Int) + 1) s.cfg.nbuf = (s.cur + 1) % s.cfg.nbuf from emod_add s.cur 1 _]
    exact .emitted hs

end Sys2Proof.Machine
end

