-- ==== Sys2Proof/Laws/Inv.lean ====
section
/-! SUPPORT. The invariant as a check that can be computed, for concrete states. -/

namespace Sys2Proof.Machine

/-- `State.Inv` as a Bool. -/
def State.invCheck (s : State) : Bool :=
  decide (s.wp.toNat < s.cfg.Q) && decide (1 ≤ s.dofs.toNat) && decide (s.dofs.toNat < s.cfg.Q)
    && decide (s.gain.toNat ≤ s.cfg.gainMax)
    && decide (s.mdSt ≠ .idle → s.rsv = true)
    && decide (s.rsv = true → 0x80 ≤ s.rs.toNat ∧ s.rs.toNat ≤ 0xEF)
    && decide (s.mdSt = .awaitingData2 → dlen s.rs = 2)
    && decide (s.mqHead < s.cfg.midiqCap) && decide (s.mqCnt ≤ s.cfg.midiqCap)
    && (queued s).all eventWf
    && decide (s.cur < s.cfg.nbuf) && decide (s.schSt ≠ .idle → ownerOf s s.cur = .sched)
    && decide (s.err.extractLsb' 4 12 = 0)
    && decide (s.err.getLsbD 0 = true ↔ 0 < s.urunCnt.toNat)
    && decide (s.err.getLsbD 1 = true ↔ 0 < s.ferrCnt.toNat)
    && decide (s.err.getLsbD 2 = true ↔ 0 < s.qovfCnt.toNat)
    && decide (s.own.length = s.cfg.nbuf) && decide (s.blk.length = s.cfg.nbuf)
    && s.buf.wf && s.buf.within s.cfg.Q && s.mq.wf && s.mq.within s.cfg.midiqCap
    && s.blk.all Memory.wf && s.blk.all (fun m => Memory.within m s.cfg.B)
    && s.blkout.all (fun r => decide (r.samples.length = s.cfg.B) && decide (r.index < s.cfg.nbuf))
    && s.evout.all (fun evs => evs.all eventWf)

/-- A state that passes the check meets the invariant. -/
theorem State.inv_of_check {s : State} (h : s.invCheck = true) : s.Inv := by
  simp only [State.invCheck, Bool.and_eq_true, decide_eq_true_eq, List.all_eq_true] at h
  obtain ⟨⟨⟨⟨⟨⟨⟨⟨⟨⟨⟨⟨⟨⟨⟨⟨⟨⟨⟨⟨⟨⟨⟨⟨⟨h1, h2⟩, h3⟩, h4⟩, h5⟩, h6⟩, h7⟩, h8⟩, h9⟩, h10⟩, h11⟩, h12⟩, h13⟩, h14⟩, h15⟩, h16⟩,
    h17⟩, h18⟩, h19⟩, h20⟩, h21⟩, h22⟩, h23⟩, h24⟩, h25⟩, h26⟩ := h
  exact ⟨h1, h2, h3, h4, h5, h6, h7, h8, h9, h10, h11, h12, h13, h14, h15, h16, h17, h18, h19, h20, h21, h22, h23, h24,
    h25, h26⟩

end Sys2Proof.Machine
end

