-- ==== Sys2Proof/Laws/PerInstr.lean ====
section
/-! SUPPORT. Statements made of every operation as syntax, one lemma per constructor. `RowMatch`: the operation's encoding is
admitted by its own row of the opcode table. -/

namespace Sys2Proof.Laws.RowMatch

/-- The encoding of an operation is a word of the operation's own opcode-table row. -/
def Statement (i : Instr) : Prop := i.row.admits (encode i) = true

/-- A command word is admitted by a row on CMD_IN when its `op` matches under the row's `op` mask. -/
theorem command_admitted (mnemonic : String) (op : BitVec 8) (arg : U16) (pattern mask : Nat)
    (h : op.toNat &&& mask = pattern) :
    OpcodeRow.admits ⟨mnemonic, .cmdIn, pattern <<< 16, mask <<< 16⟩ (.cmdIn (op ++ arg)) = true := by
  have hbits := commandBits_and op arg mask
  rw [h] at hbits
  rw [OpcodeRow.admits, PortWord.codeBits, hbits, PortWord.port]
  simp

theorem mdData : ∀ val7 : BitVec 7, Statement (.mdData val7) := by unfold Statement; decide +kernel

theorem mdNoteOff : ∀ chan : BitVec 4, Statement (.mdNoteOff chan) := by unfold Statement; decide

theorem mdNoteOn : ∀ chan : BitVec 4, Statement (.mdNoteOn chan) := by unfold Statement; decide

theorem mdPolyAt : ∀ chan : BitVec 4, Statement (.mdPolyAt chan) := by unfold Statement; decide

theorem mdCc : ∀ chan : BitVec 4, Statement (.mdCc chan) := by unfold Statement; decide

theorem mdProg : ∀ chan : BitVec 4, Statement (.mdProg chan) := by unfold Statement; decide

theorem mdChanAt : ∀ chan : BitVec 4, Statement (.mdChanAt chan) := by unfold Statement; decide

theorem mdPBend : ∀ chan : BitVec 4, Statement (.mdPBend chan) := by unfold Statement; decide

theorem mdSys : ∀ low : BitVec 4, Statement (.mdSys low) := by unfold Statement; decide

theorem setOfs (n : U16) : Statement (.setOfs n) := command_admitted _ 0x01#8 n 0x01 0xFF (by decide)

theorem setGain (g : U16) : Statement (.setGain g) := command_admitted _ 0x02#8 g 0x02 0xFF (by decide)

theorem rdStat (r : U16) : Statement (.rdStat r) := command_admitted _ 0x03#8 r 0x03 0xFF (by decide)

theorem cmdReserved00 (arg : U16) : Statement (.cmdReserved00 arg) :=
  command_admitted _ 0x00#8 arg 0x00 0xFF (by decide)

theorem cmdReserved04 (op : BitVec 2) (arg : U16) : Statement (.cmdReserved04 op arg) :=
  command_admitted _ (0b000001#6 ++ op) arg 0x04 0xFC (by revert op; decide)

theorem cmdReserved08 (op : BitVec 3) (arg : U16) : Statement (.cmdReserved08 op arg) :=
  command_admitted _ (0b00001#5 ++ op) arg 0x08 0xF8 (by revert op; decide)

theorem cmdReserved10 (op : BitVec 4) (arg : U16) : Statement (.cmdReserved10 op arg) :=
  command_admitted _ (0b0001#4 ++ op) arg 0x10 0xF0 (by revert op; decide)

theorem cmdReserved20 (op : BitVec 5) (arg : U16) : Statement (.cmdReserved20 op arg) :=
  command_admitted _ (0b001#3 ++ op) arg 0x20 0xE0 (by revert op; decide)

theorem cmdReserved40 (op : BitVec 6) (arg : U16) : Statement (.cmdReserved40 op arg) :=
  command_admitted _ (0b01#2 ++ op) arg 0x40 0xC0 (by revert op; decide +kernel)

theorem cmdReserved80 (op : BitVec 7) (arg : U16) : Statement (.cmdReserved80 op arg) :=
  command_admitted _ (0b1#1 ++ op) arg 0x80 0x80 (by revert op; decide +kernel)

theorem tick : Statement .tick := by unfold Statement; decide

theorem render (r : List Sample) : Statement (.render r) := by
  simp [Statement, Instr.row, encode, OpcodeRow.admits, PortWord.port, PortWord.codeBits]

theorem release (k : Nat) : Statement (.release k) := by
  simp [Statement, Instr.row, encode, OpcodeRow.admits, PortWord.port, PortWord.codeBits]

theorem reset : Statement .reset := by unfold Statement; decide

theorem delay : Statement .delay := by unfold Statement; decide

theorem emit : Statement .emit := by unfold Statement; decide

end Sys2Proof.Laws.RowMatch
end

