-- ==== Sys2Proof/Tests/Slice0.lean ====
section
/-! SUPPORT. The model's own tests. Expected results are the spec's: its worked examples and tables (95_test_vectors.md, named at
each test), or the encodings of 30_encoding.md written out. Then one witness for the hypotheses of each obligation. -/

namespace Sys2Proof.Tests

open Sys2Proof.Machine

/-! ## Helpers -/

/-- The configuration "Small" of 95_test_vectors.md. -/
def small : Config := { B := 3, Q := 8, midiqCap := 2, ok := by decide }

/-- "From reset" in the small configuration. -/
def fresh : State := State.resetOf small

/-- A view of the next state, if there is one. -/
def after {α : Type} (o : Host.Outcome State Fault Refusal) (f : State → α) : Option α :=
  match o with
  | .next s => some (f s)
  | .fault _ => none
  | .refused _ => none

/-- A block of samples from their values. -/
def block (values : List Int) : List Sample := values.map (BitVec.ofInt 16)

/-- The operations of a list of MIDI bytes. -/
def bytes (bs : List Byte) : List Instr := bs.map decodeMidi

/-! ## The parameter record: 00_scope.md R8 gives DOFS_RESET the default Q - 1 -/

theorem test_dofsReset_follows_Q : ({ Q := 20000 } : Params).dofsReset = 19999 ∧ small.dofsReset = 7 := by decide

theorem test_params_refuse_offset_of_Q : ({ Q := 20000, dofsReset := 20000 } : Params).ok = false := by decide

/-! ## WellFormed: the one check, with a term it refuses -/

theorem test_wellFormed_refuses_short_block : (Instr.render (block [1, 2])).wellFormed small = false := by decide

theorem test_wellFormed_takes_whole_block : (Instr.render (block [1, 2, 3])).wellFormed small = true := by decide

/-! ## Decoding: words written out from 30_encoding.md R93 to R105 -/

theorem test_decode_mdData : decode small (.midiIn 0b01000000#8) = .ok (.mdData 64) := by decide
theorem test_decode_mdNoteOff : decode small (.midiIn 0b10000011#8) = .ok (.mdNoteOff 3) := by decide
theorem test_decode_mdNoteOn : decode small (.midiIn 0b10010000#8) = .ok (.mdNoteOn 0) := by decide
theorem test_decode_mdPolyAt : decode small (.midiIn 0b10100001#8) = .ok (.mdPolyAt 1) := by decide
theorem test_decode_mdCc : decode small (.midiIn 0b10110010#8) = .ok (.mdCc 2) := by decide
theorem test_decode_mdProg : decode small (.midiIn 0b11000000#8) = .ok (.mdProg 0) := by decide
theorem test_decode_mdChanAt : decode small (.midiIn 0b11010011#8) = .ok (.mdChanAt 3) := by decide
theorem test_decode_mdPBend : decode small (.midiIn 0b11101111#8) = .ok (.mdPBend 15) := by decide
theorem test_decode_mdSys : decode small (.midiIn 0b11111000#8) = .ok (.mdSys 8) := by decide
theorem test_decode_setOfs : decode small (.cmdIn 0x012EE1#24) = .ok (.setOfs 12001) := by decide
theorem test_decode_setGain : decode small (.cmdIn 0x027D70#24) = .ok (.setGain 32112) := by decide
theorem test_decode_rdStat : decode small (.cmdIn 0x03000A#24) = .ok (.rdStat 10) := by decide
theorem test_decode_cmdReserved00 : decode small (.cmdIn 0x001234#24) = .ok (.cmdReserved00 0x1234) := by decide
theorem test_decode_cmdReserved04 : decode small (.cmdIn 0x060001#24) = .ok (.cmdReserved04 0b10 1) := by decide
theorem test_decode_cmdReserved08 : decode small (.cmdIn 0x0D0001#24) = .ok (.cmdReserved08 0b101 1) := by decide
theorem test_decode_cmdReserved10 : decode small (.cmdIn 0x190001#24) = .ok (.cmdReserved10 0b1001 1) := by decide
theorem test_decode_cmdReserved20 : decode small (.cmdIn 0x310001#24) = .ok (.cmdReserved20 0b10001 1) := by decide
theorem test_decode_cmdReserved40 : decode small (.cmdIn 0x610001#24) = .ok (.cmdReserved40 0b100001 1) := by decide
theorem test_decode_cmdReserved80 : decode small (.cmdIn 0xFF1234#24) = .ok (.cmdReserved80 0x7F 0x1234) := by decide
theorem test_decode_tick : decode small (.tickIn 1#1) = .ok .tick := by decide
theorem test_decode_render : decode small (.renderIn 1#1 (block [1, 2, 3])) = .ok (.render (block [1, 2, 3])) := by decide
theorem test_decode_release : decode small (.releaseIn 1#1 5) = .ok (.release 5) := by decide
theorem test_decode_reset : decode small (.resetIn 1#1) = .ok .reset := by decide
theorem test_decode_delay : decode small (.step 0b10#2) = .ok .delay := by decide
theorem test_decode_emit : decode small (.step 0b11#2) = .ok .emit := by decide

/-- The byte-class boundaries of 95_test_vectors.md 2.2. -/
theorem test_decode_byte_boundaries :
    bytes [0x7F, 0x80, 0xEF, 0xF0, 0xFF] = [.mdData 127, .mdNoteOff 0, .mdPBend 15, .mdSys 0, .mdSys 15] := by decide

theorem test_decodeTableWord : decodeTableWord 8 0x93 = some (.mdNoteOn 3) ∧
    decodeTableWord 24 0x030004 = some (.rdStat 4) ∧ decodeTableWord 1 1 = none := by decide

/-! ## Arithmetic: 95_test_vectors.md 2.1 -/

theorem test_emod : emod (-1) 8 = 7 ∧ emod 8 8 = 0 ∧ emod (-8) 8 = 0 ∧ emod 12047 12000 = 47 ∧
    emod (0 - 11999) 12000 = 1 := by decide

theorem test_tdiv : tdiv 7 2 = 3 ∧ tdiv (-7) 2 = -3 ∧ tdiv (-1) 32768 = 0 ∧ tdiv (-65535) 32768 = -1 := by decide

theorem test_mulg : mulg 1 (-32768) = -1 ∧ mulg 16384 (-3) = -1 ∧ mulg 16384 4875 = 2437 ∧ mulg 32112 (-1) = 0 ∧
    mulg 32112 32767 = 32111 ∧ mulg 32112 (-32768) = -32112 := by decide

theorem test_sat16 : sat16 32768 = 32767 ∧ sat16 (-32769) = -32768 ∧ sat16 64878 = 32767 ∧ sat16 (-32768) = -32768 := by
  decide

theorem test_satinc : satinc 0 = 1 ∧ satinc 65534 = 65535 ∧ satinc 65535 = 65535 := by decide

/-! ## MIDI bytes: 95_test_vectors.md 2.2 -/

/-- MD1, the document's own example E1. -/
theorem test_noteOn_message : after (runTrace (bytes [0x90, 0x40, 0x7F]) fresh)
    (fun s => (queued s, s.mdSt, s.rs, s.d1, s.ferrCnt)) = some ([0x90407F], .idle, 0x90, 64, 0) := by decide

/-- MD7: NoteOff, then ControlChange. -/
theorem test_noteOff_and_cc : after (runTrace (bytes [0x80, 0x3C, 0x00, 0xB1, 0x07, 0x64]) fresh)
    (fun s => (queued s, s.rs, s.d1)) = some ([0x803C00, 0xB10764], 0xB1, 7) := by decide

/-- MD13, and MD10's first message: kinds without a variant. -/
theorem test_polyAt_and_pBend : after (runTrace (bytes [0xA3, 0x10, 0x20, 0x30]) fresh)
      (fun s => (queued s, s.mdSt, s.d1)) = some ([], .awaitingData2, 48) ∧
    after (runTrace (bytes [0xE0, 0x00, 0x40]) fresh) (fun s => (queued s, s.mdSt, s.err)) = some ([], .idle, 0) := by decide

/-- MD6, and MD14's first message: one data byte. -/
theorem test_prog_and_chanAt : after (runTrace (bytes [0xC0, 0x05, 0x06]) fresh)
      (fun s => (queued s, s.mdSt, s.rs, s.ferrCnt)) = some ([], .idle, 0xC0, 0) ∧
    after (runTrace (bytes [0xD2, 0x11]) fresh) (fun s => (s.mdSt, s.rs)) = some (.idle, 0xD2) := by decide

/-- MD5: a system byte cuts a message, and each of the two stray data bytes counts. -/
theorem test_sys_cuts_message : after (runTrace (bytes [0x90, 0x40, 0xF8, 0x41, 0x7F]) fresh)
    (fun s => (queued s, s.mdSt, s.rsv, s.ferrCnt, s.err)) = some ([], .idle, false, 3, 2) := by decide

/-- P2's first line with capacity 2: the third event drops the oldest. -/
theorem test_overflow_drops_oldest :
    after (runTrace (bytes [0x90, 0x3C, 0x64, 0x3E, 0x64, 0x40, 0x64]) fresh)
      (fun s => (queued s, s.mqHead, s.qovfCnt, s.err)) = some ([0x903E64, 0x904064], 1, 1, 4) := by decide

/-! ## Host commands: 95_test_vectors.md V-DL9 and 2.6 -/

theorem test_setOfs_refused : after (exec (.setOfs 12001) State.reset) (fun s => (s.resp, s.dofs, s.err))
    = some ([0x12EDF], 11999, 8) := by decide

theorem test_setOfs_clamped : after (exec (.setOfs 12000) State.reset) (fun s => (s.resp, s.err)) = some ([0x02EDF], 0) ∧
    after (exec (.setOfs 0) State.reset) (fun s => (s.resp, s.dofs)) = some ([0x00001], 1) := by decide

theorem test_setGain_clamped : after (exec (.setGain 32113) State.reset) (fun s => (s.resp, s.gain))
    = some ([0x07D70], 32112) := by decide

/-- HP6: md.st 2 in bits 3:2, sch.st 1 in bits 1:0. -/
theorem test_rdStat_fsm : after (runTrace (bytes [0x90, 0x40] ++ [.tick, .rdStat 8]) State.reset) State.resp
    = some [0x00009] := by decide

theorem test_rdStat_reserved : after (runTrace [.rdStat 10, .rdStat 65535, .rdStat 4] State.reset) State.resp
    = some [0x10000, 0x10000, 0x02EDF] := by decide

theorem test_reserved_commands :
    after (runTrace [.cmdReserved00 0, .cmdReserved04 0 0, .cmdReserved08 0 0, .cmdReserved10 0 0, .cmdReserved20 0 0,
        .cmdReserved40 0 0, .cmdReserved80 0x7F 0x1234] State.reset)
      (fun s => (s.resp, s.err)) = some (List.replicate 7 0x10000, 0) := by decide

/-! ## The tick cycle: 95_test_vectors.md V-DL1 and 2.5 -/

/-- SCH1 after SCH13's NoteOn: the tick delivers the event. -/
theorem test_tick_accepted : after (runTrace (bytes [0x90, 0x3C, 0x64] ++ [.tick]) fresh)
    (fun s => (s.evout, s.mqCnt, s.schSt)) = some ([[0x903C64]], 0, .rendering) := by decide

/-- SCH2. -/
theorem test_tick_dropped : after (runTrace [.tick, .tick] fresh) (fun s => (s.evout, s.urunCnt, s.err, s.schSt))
    = some ([[]], 1, 1, .rendering) := by decide

/-- V-DL1: offset 2, gain one half, the third tap written by the same block. -/
theorem test_delay_V_DL1 : after (runTrace [.setOfs 2, .setGain 16384, .tick, .render (block [1000, -2000, 3000]), .delay] fresh)
    (fun s => (samplesOf s 0, s.buf.readBlock 8, s.wp, s.schSt))
      = some (block [1000, -2000, 3750], block [1500, -3000, 4875, 0, 0, 0, 0, 0], 3, .emitting) := by decide +kernel

/-- SCH5, then SCH6 in Idle. -/
theorem test_render : after (runTrace [.tick, .render (block [1, 2, 3])] fresh) (fun s => (samplesOf s 0, s.schSt))
      = some (block [1, 2, 3], .delaying) ∧
    after (exec (.render (block [1, 2, 3])) fresh) (fun s => decide (s = fresh)) = some true := by decide

/-- SCH8 and SCH10. -/
theorem test_emit_and_release :
    after (exec .emit { fresh with schSt := .emitting }) (fun s => (s.own, s.cur, s.schSt, s.blkout.map BlockRecord.index))
      = some ([.sink, .sched], 1, .idle, [0]) ∧
    after (exec (.release 0) { fresh with own := [.sink, .sched] }) State.own = some [.sched, .sched] := by decide

/-- SCH12: a release out of range is ignored. -/
theorem test_release_out_of_range : after (exec (.release 5) fresh) (fun s => decide (s = fresh)) = some true := by decide

/-- HP12: RESET mid-cycle; the outputs go on. -/
theorem test_reset : after (runTrace [.setOfs 2, .tick, .tick, .reset] fresh)
    (fun s => (s.schSt, s.err, s.urunCnt, s.dofs, s.resp)) = some (.idle, 0, 0, 7, [0x00002]) := by decide

/-! ## Steps -/

/-- With nothing pending the core rests in Idle, and takes DELAY then EMIT by itself. -/
theorem test_step_rests : after (step fresh) (fun s => decide (s = fresh)) = some true := by decide

theorem test_step_takes_internal_step :
    after (step { fresh with schSt := .emitting }) (fun s => (s.schSt, s.cur)) = some (.idle, 1) := by decide

theorem test_withFetchWord : after (step (State.reset.withFetchWord 24 0x030004)) (fun s => (s.resp, s.inbox))
    = some ([0x02EDF], []) := by decide

/-! ## Witnesses: for every obligation with hypotheses, a state and operands that meet them -/

/-- In Rendering, Delaying and Emitting; in Idle with the next buffer at the sink. -/
def rendering : State := { fresh with schSt := .rendering }
def delaying : State := { fresh with schSt := .delaying, gain := 16384, blk := [[(0, 1000), (1, 5)], []] }
def emitting : State := { fresh with schSt := .emitting }
def sinkHolds : State := { fresh with own := [.sink, .sched] }

/-- In AwaitingData2 under a NoteOn with an empty queue, with a full queue, and under a kind that emits nothing. -/
def second : State := { fresh with mdSt := .awaitingData2, rsv := true, rs := 0x90, d1 := 64 }
def secondFull : State := { second with mq := [(0, 0x903C64), (1, 0x903E64)], mqCnt := 2 }
def secondSilent : State := { second with rs := 0xA1 }

theorem fresh_inv : fresh.Inv := State.inv_of_check (by decide)
theorem rendering_inv : rendering.Inv := State.inv_of_check (by decide)
theorem delaying_inv : delaying.Inv := State.inv_of_check (by decide)

/-- The same with offset 1, so that a block taps its own samples. -/
def delayingShort : State := { delaying with dofs := 1 }

theorem delayingShort_inv : delayingShort.Inv := State.inv_of_check (by decide)
theorem emitting_inv : emitting.Inv := State.inv_of_check (by decide)
theorem sinkHolds_inv : sinkHolds.Inv := State.inv_of_check (by decide)
theorem second_inv : second.Inv := State.inv_of_check (by decide)
theorem secondFull_inv : secondFull.Inv := State.inv_of_check (by decide)
theorem secondSilent_inv : secondSilent.Inv := State.inv_of_check (by decide)

theorem witness_DecodeOfEncodeIsTheOperation : ∃ (c : Config) (i : Instr), i.wellFormed c = true :=
  ⟨small, .render (block [1, -2, 3]), by decide⟩

theorem witness_DecodedWordIsTheEncoding : ∃ (c : Config) (w : PortWord) (i : Instr), decode c w = .ok i :=
  ⟨small, .cmdIn 0x7FFFFF, .cmdReserved40 63 65535, by decide⟩

theorem witness_WordsOfNoOperationAreRejectedByName : ∃ (c : Config) (r : List Sample), r.length ≠ c.B :=
  ⟨small, block [1, 2, 3, 4], by decide⟩

theorem witness_StepRunsTheDecodedOperation : ∃ (s : State) (w : PortWord) (rest : List PortWord) (i : Instr),
    s.inbox = w :: rest ∧ decode s.cfg w = .ok i :=
  ⟨{ fresh with inbox := [.tickIn 1, .midiIn 0x90] }, .tickIn 1, [.midiIn 0x90], .tick, by decide⟩

theorem witness_StepWithNothingPending : (fresh.inbox = [] ∧ fresh.schSt = .idle) ∧
    (rendering.inbox = [] ∧ rendering.schSt = .rendering) ∧ (delaying.inbox = [] ∧ delaying.schSt = .delaying) ∧
    emitting.inbox = [] ∧ emitting.schSt = .emitting := by decide

theorem witness_StepRefusesAWordOfNoOperation : ∃ (s : State) (w : PortWord) (rest : List PortWord) (why : Reject),
    s.inbox = w :: rest ∧ decode s.cfg w = .error why :=
  ⟨{ fresh with inbox := [.step 1] }, .step 1, [], .noSuchStep, by decide⟩

theorem witness_EveryStepKeepsTheInvariant : ∃ s t : State, s.Inv ∧ step s = .next t :=
  ⟨emitting, _, emitting_inv, rfl⟩

theorem witness_EveryReachableStateMeetsTheInvariant : ∃ (c : Config) (ops : List Instr) (t : State),
    runTrace ops (State.resetOf c) = .next t :=
  ⟨small, [.tick, .render (block [1, 2, 3]), .mdNoteOn 0], _, rfl⟩

theorem witness_NoStepChangesTheParameters : ∃ s t : State, step s = .next t := ⟨fresh, fresh, rfl⟩

theorem witness_NothingStopsTheCore : ∃ (s : State) (i : Instr), i.wellFormed s.cfg = true ∧
    (i = .delay → s.schSt = .delaying) ∧ (i = .emit → s.schSt = .emitting) :=
  ⟨delaying, .delay, by decide⟩

theorem witness_InternalStepsAreStuckWhereNotEnabled : ∃ s : State, s.schSt ≠ .delaying ∧ s.schSt ≠ .emitting :=
  ⟨fresh, by decide⟩

theorem witness_FlagsAndCountersNeverGoBack : ∃ (s t : State) (i : Instr), exec i s = .next t ∧ i ≠ .reset :=
  ⟨rendering, _, .tick, rfl, by decide⟩

/-- The ends of the ranges of the table. -/
theorem witness_MessageTableOfStatusBytes :
    ∀ b ∈ [0x80#8, 0x9F, 0xA0, 0xAF, 0xB0, 0xBF, 0xC0, 0xDF, 0xE0, 0xEF], 0x80 ≤ b.toNat ∧ b.toNat ≤ 0xEF := by decide

theorem witness_ChannelVoiceStatusStartsAMessage :
    (Instr.mdPBend 15, 0xE#4) ∈ [(Instr.mdNoteOff 15, 0x8#4), (.mdNoteOn 15, 0x9#4), (.mdPolyAt 15, 0xA#4), (.mdCc 15, 0xB#4),
      (.mdProg 15, 0xC#4), (.mdChanAt 15, 0xD#4), (.mdPBend 15, 0xE#4)] := by decide

theorem witness_FirstDataByteIsKept : (∃ s : State, s.mdSt = .awaitingData1 ∧ dlen s.rs = 2) ∧
    ∃ s : State, s.mdSt = .idle ∧ s.rsv = true ∧ dlen s.rs = 2 :=
  ⟨⟨{ fresh with mdSt := .awaitingData1, rsv := true, rs := 0x90 }, by decide⟩, ⟨{ fresh with rsv := true, rs := 0xE0 }, by decide⟩⟩

theorem witness_OnlyDataByteCompletesSilently : (∃ s : State, s.mdSt = .awaitingData1 ∧ dlen s.rs = 1) ∧
    ∃ s : State, s.mdSt = .idle ∧ s.rsv = true ∧ dlen s.rs = 1 :=
  ⟨⟨{ fresh with mdSt := .awaitingData1, rsv := true, rs := 0xC0 }, by decide⟩, ⟨{ fresh with rsv := true, rs := 0xDF }, by decide⟩⟩

theorem witness_SecondDataByteQueuesTheEvent :
    (second.Inv ∧ second.mdSt = .awaitingData2 ∧ emits second.rs = true ∧ second.mqCnt < second.cfg.midiqCap) ∧
    (secondFull.Inv ∧ secondFull.mdSt = .awaitingData2 ∧ emits secondFull.rs = true ∧
      secondFull.mqCnt = secondFull.cfg.midiqCap) ∧
    (secondSilent.Inv ∧ secondSilent.mdSt = .awaitingData2 ∧ emits secondSilent.rs = false) :=
  ⟨⟨second_inv, by decide⟩, ⟨secondFull_inv, by decide⟩, secondSilent_inv, by decide⟩

theorem witness_StrayDataByteIsAFramingError : fresh.mdSt = .idle ∧ fresh.rsv = false := by decide

/-- Room for exactly the two events. -/
theorem witness_CompleteMessageAndRunningStatusGiveTheirEvents :
    fresh.Inv ∧ fresh.mdSt = .idle ∧ fresh.mqCnt + 2 = fresh.cfg.midiqCap := ⟨fresh_inv, by decide⟩

theorem witness_MessagesWithoutAVariantAreSilent : fresh.mdSt = .idle := by decide

theorem witness_NoEventFromAPartialMessage : ∃ (s t : State) (i : Instr), s.Inv ∧ byteOps i = true ∧ exec i s = .next t ∧
    queued t ≠ queued s :=
  ⟨second, _, .mdData 127, second_inv, rfl, rfl, by decide⟩

theorem witness_ABytesReachIsTheDecoderTheQueueAndTwoFlags : byteOps (.mdData 127) = true := rfl

theorem witness_BytesCommuteWithRenderDelayEmitReleaseSetOfsSetGain : byteOps (.mdData 127) = true ∧ ∃ r, Instr.render [1, 2, 3] = .render r :=
  ⟨rfl, _, rfl⟩

/-- With room for two events: two pushes do not overflow, three do. -/
theorem witness_PushesKeepTheNewestEvents : fresh.Inv ∧ fresh.mqCnt = 0 ∧
    ¬fresh.cfg.midiqCap < [0x903C64#24, 0x803C40].length ∧ fresh.cfg.midiqCap < [0x903C64#24, 0x803C40, 0xB20740].length :=
  ⟨fresh_inv, by decide⟩

theorem witness_AcceptedTickDrainsTheQueue : secondFull.schSt = .idle ∧ ownerOf secondFull secondFull.cur = .sched := by decide

theorem witness_DroppedTickOnlyRecordsUnderrun :
    rendering.schSt ≠ .idle ∧ sinkHolds.schSt = .idle ∧ ownerOf sinkHolds sinkHolds.cur = .sink := by decide

theorem witness_RenderedBlockFillsTheCurrentBuffer :
    rendering.Inv ∧ rendering.schSt = .rendering ∧ (block [1, 2, 3]).length = rendering.cfg.B :=
  ⟨rendering_inv, by decide⟩

theorem witness_UnrequestedRenderIsIgnored : (block [1, 2, 3]).length = fresh.cfg.B ∧ fresh.schSt ≠ .rendering ∧
    (block [1, 2]).length ≠ fresh.cfg.B := by decide

/-- `delayingShort` with offset 1 and B = 3 meets both tap cases: sample 0 taps the old buffer, samples 1 and 2 the block itself. -/
theorem witness_DelayBlockFollowsTheTapEquations : (delaying.Inv ∧ delaying.schSt = .delaying) ∧
    delayingShort.Inv ∧ delayingShort.schSt = .delaying ∧ ¬delayingShort.dofs.toNat ≤ 0 ∧
    delayingShort.dofs.toNat ≤ 1 ∧ 1 < delayingShort.cfg.B :=
  ⟨⟨delaying_inv, by decide⟩, delayingShort_inv, by decide⟩

theorem witness_ZeroGainIsAPurePassThrough : ∃ s : State, s.Inv ∧ s.schSt = .delaying ∧ s.gain = 0 :=
  ⟨{ fresh with schSt := .delaying }, State.inv_of_check (by decide), by decide⟩

theorem witness_ZeroInputDecaysToSilence : delaying.Inv ∧ 32768 * delaying.cfg.Q ≤ 87382 * delaying.cfg.B :=
  ⟨delaying_inv, by decide⟩

/-- The ends of the ranges. -/
theorem witness_GainArithmeticLaws : (32767 < 32768) ∧ (-32768 : Int) ≤ -32768 ∧ (-32768 : Int) ≤ 32767 ∧ (0 < 1) := by decide

/-- The smallest tap index and the largest: wp = 0, i = 0, d = q - 1, and wp = q - 1, i = b - 1, d = 1. -/
theorem witness_IndexesNeedOneCorrection :
    (0 < 8 ∧ 0 < 3 ∧ 3 ≤ 8 ∧ 1 ≤ 7 ∧ 7 ≤ 8 - 1) ∧ (7 < 8 ∧ 7 < 8 ∧ 8 ≤ 8 ∧ 1 ≤ 1 ∧ 1 ≤ 8 - 1) := by decide

theorem witness_EmitHandsTheBlockToTheSink : emitting.Inv ∧ emitting.schSt = .emitting := ⟨emitting_inv, by decide⟩

theorem witness_ReleaseGivesBackOnlyWhatTheSinkHolds : sinkHolds.Inv ∧ 0 < sinkHolds.cfg.nbuf ∧
    ownerOf sinkHolds 0 = .sink ∧ ownerOf sinkHolds 1 = .sched ∧ sinkHolds.cfg.nbuf ≤ 2 :=
  ⟨sinkHolds_inv, by decide⟩

theorem witness_TheSchedulerMovesOnlyAlongItsCycle : ∃ (s t : State) (i : Instr), exec i s = .next t :=
  ⟨delaying, _, .delay, rfl⟩

theorem witness_BlocksAndCyclesCountAcceptedTicks : ∃ (s t : State) (i : Instr), exec i s = .next t ∧ i ≠ .reset :=
  ⟨fresh, _, .tick, rfl, by decide⟩

theorem witness_NominalTicksEmitOneBlockEach : fresh.Inv ∧ fresh.schSt = .idle ∧
    (∀ k, k < fresh.cfg.nbuf → ownerOf fresh k = .sched) ∧
    ∀ r ∈ [block [1, 2, 3], block [4, 5, 6], block [7, 8, 9]], r.length = fresh.cfg.B :=
  ⟨fresh_inv, by decide⟩

theorem witness_UnconfiguredCorePassesBlocksThrough : fresh.Inv ∧ fresh.schSt = .idle ∧
    (∀ k, k < fresh.cfg.nbuf → ownerOf fresh k = .sched) ∧ fresh.gain = 0 ∧
    ∀ r ∈ [block [1, 2, 3], block [4, 5, 6], block [7, 8, 9]], r.length = fresh.cfg.B :=
  ⟨fresh_inv, by decide⟩

theorem witness_ReleaseBeforeOrAfterTheTickDecidesIt : sinkHolds.Inv ∧ sinkHolds.schSt = .idle ∧
    ownerOf sinkHolds sinkHolds.cur = .sink :=
  ⟨sinkHolds_inv, by decide⟩

/-- The capacity itself and one more. -/
theorem witness_SetOfsClampsOrRefuses : (8#16).toNat ≤ fresh.cfg.Q ∧ fresh.cfg.Q < (9#16).toNat := by decide

theorem witness_RdStatAnswersTheViews : fresh.Inv ∧ fresh.mqCnt < 65536 ∧ 10 ≤ (10#16).toNat := ⟨fresh_inv, by decide⟩

theorem witness_ReservedCommandsAnswerAnError : Instr.cmdReserved80 127 0 ∈ [Instr.cmdReserved00 0, .cmdReserved04 3 0,
    .cmdReserved08 7 0, .cmdReserved10 15 0, .cmdReserved20 31 0, .cmdReserved40 63 0, .cmdReserved80 127 0] := by decide

theorem witness_EveryCommandWordIsAnsweredAtOnce :
    (∃ (s : State) (w : CommandWord) (rest : List PortWord), s.inbox = .cmdIn w :: rest) ∧
    ∃ (s t : State) (i : Instr), commandOps i = false ∧ exec i s = .next t :=
  ⟨⟨{ fresh with inbox := [.cmdIn 0x040000] }, 0x040000, [], rfl⟩, fresh, _, .tick, rfl, rfl⟩

theorem witness_HostCommandsChangeOnlyOffsetGainAndOneFlag : ∃ (s t : State) (i : Instr), commandOps i = true ∧
    exec i s = .next t ∧ t.err ≠ s.err :=
  ⟨fresh, _, .setOfs 9, rfl, rfl, by decide⟩

theorem witness_EachRegisterIsWrittenOnlyByItsOperations :
    (∃ (s t : State) (i : Instr), exec i s = .next t ∧ i ≠ .reset ∧ t.own ≠ s.own ∧ t.schSt ≠ s.schSt) ∧
    ∃ (s t : State) (i : Instr), exec i s = .next t ∧ i ≠ .reset ∧ t.err ≠ s.err ∧ t.resp ≠ s.resp :=
  ⟨⟨emitting, _, .emit, rfl, by decide⟩, fresh, _, .setOfs 9, rfl, by decide⟩

theorem witness_CanonicalMemoriesAreTheirReads : ∃ m : Memory 16, m.wf = true ∧ ∀ a, m.read a = Memory.read m a :=
  ⟨[(2, 7), (5, 1)], by decide, fun _ => rfl⟩

end Sys2Proof.Tests
end

/-! PROOFS for 00_scope.md: what every step keeps (R7), the answers to command words (R16), one operation a step (R15, R17),
the index arithmetic (R14) and the parameter record (R8). -/

namespace Sys2Proof.Machine

/-! ## One step, said once -/

/-- A fetched word that decodes is run, in the state in which it is pending no more (R15). -/
theorem step_of_decode_ok {s : State} {i : Instr} (h : decode s.cfg (fetchWord s) = .ok i) :
    step s = exec i (afterFetch s) := by
  simp only [step, h]

/-- A fetched word that encodes no operation goes to `onReject` (log 4, log 9). -/
theorem step_of_decode_error {s : State} {why : Reject} (h : decode s.cfg (fetchWord s) = .error why) :
    step s = onReject why s := by
  simp only [step, h]

/-- The first pending word is run, in the state whose pending words are the rest (log 3). -/
theorem step_of_pending {s : State} {w : PortWord} {rest : List PortWord} {i : Instr} (hin : s.inbox = w :: rest)
    (hdec : decode s.cfg w = .ok i) : step s = exec i { s with inbox := rest } := by
  rw [step_of_decode_ok (by rwa [fetchWord_pending hin]), afterFetch_pending hin]

/-- A rejected word leaves a next state only with nothing pending, and it is the same state: the core rests (R289). -/
theorem onReject_next {why : Reject} {s t : State} (h : onReject why s = .next t) : s.inbox = [] ∧ t = s := by
  unfold onReject at h
  split at h
  · next hin => cases h; exact ⟨hin, rfl⟩
  · cases h

/-- The inversion of `step`: a next state is that of the decoded operation, or the core rests. -/
theorem step_next_cases {s t : State} (h : step s = .next t) :
    (∃ i, decode s.cfg (fetchWord s) = .ok i ∧ exec i (afterFetch s) = .next t) ∨ (s.inbox = [] ∧ t = s) := by
  cases hdec : decode s.cfg (fetchWord s) with
  | ok i => exact .inl ⟨i, rfl, step_of_decode_ok hdec ▸ h⟩
  | error why => exact .inr (onReject_next (step_of_decode_error hdec ▸ h))

/-- Settles O7: `step_of_pending`, which cites what the fetch reads and what it leaves. -/
theorem stepRunsTheDecodedOperation : Obligations.StepRunsTheDecodedOperation :=
  fun _ _ _ _ hin hdec => step_of_pending hin hdec

/-- Settles O17: the enabling test of each internal step is its only branch (R17, U18). -/
theorem internalStepsAreStuckWhereNotEnabled : Obligations.InternalStepsAreStuckWhereNotEnabled :=
  fun _ => ⟨fun hdelay => if_neg hdelay, fun hemit => if_neg hemit⟩

/-! ## The parameter record (R7, R8) -/

/-- Each operation keeps the parameter record: every effect is built from writes of other fields. -/
theorem exec_cfg {i : Instr} {s t : State} (h : exec i s = .next t) : t.cfg = s.cfg := by
  cases exec_effect h <;> simp

/-- Settles O15: a step is one operation after the fetch, or rest. -/
theorem noStepChangesTheParameters : Obligations.NoStepChangesTheParameters := by
  intro s t h
  rcases step_next_cases h with ⟨i, -, hexec⟩ | ⟨-, rfl⟩
  · rw [exec_cfg hexec, afterFetch_cfg]
  · rfl

/-- `Params.ok` is the conjunction of the constraints of R8's table. -/
theorem params_ok_iff (p : Params) :
    p.ok = true ↔ 1 ≤ p.B ∧ p.B ≤ p.Q ∧ 2 ≤ p.Q ∧ p.Q ≤ 65534 ∧ 1 ≤ p.midiqCap ∧ 1 ≤ p.nbuf ∧ p.gainMax < 2 ^ 15 ∧
      1 ≤ p.dofsReset ∧ p.dofsReset ≤ p.Q - 1 ∧ p.gainReset ≤ p.gainMax ∧ 0 < p.sampleRate := by
  simp only [Params.ok, Bool.and_eq_true, decide_eq_true_eq, and_assoc, Nat.reducePow]

/-- Settles O58: the defaults are read off the records, the constraints are `params_ok_iff`. -/
theorem parameterRecordsAreTheSpecsTable : Obligations.ParameterRecordsAreTheSpecsTable :=
  ⟨fun _ => rfl, rfl, params_ok_iff, rfl, rfl⟩

/-! ## Command words and responses (R16, R235) -/

/-- Every command word decodes to a host command (R99 to R103). -/
theorem commandOps_decodeCmd (w : CommandWord) : commandOps (decodeCmd w) = true := by
  unfold decodeCmd decodeOp
  split_ifs <;> rfl

/-- A command completes with one response. What it writes before that (the offset, the gain or an error flag) leaves the
responses, both state registers and the pending words alone. -/
theorem exec_command_responds {i : Instr} (h : commandOps i = true) (s : State) :
    ∃ err data u, exec i s = .next (respond err data u) ∧
      u.resp = s.resp ∧ u.schSt = s.schSt ∧ u.mdSt = s.mdSt ∧ u.inbox = s.inbox := by
  cases i with
  | setOfs n =>
    simp only [exec, execSetOfs]
    split_ifs
    · exact ⟨_, _, _, rfl, raise_resp s _, raise_schSt s _, raise_mdSt s _, raise_inbox s _⟩
    · exact ⟨_, _, _, rfl, State.setDofs_resp s _, State.setDofs_schSt s _, State.setDofs_mdSt s _,
        State.setDofs_inbox s _⟩
  | setGain g =>
    exact ⟨_, _, _, rfl, State.setGain_resp s _, State.setGain_schSt s _, State.setGain_mdSt s _, State.setGain_inbox s _⟩
  | rdStat r =>
    simp only [exec, execRdStat]
    split
    · exact ⟨_, _, s, rfl, rfl, rfl, rfl, rfl⟩
    · exact ⟨_, _, s, rfl, rfl, rfl, rfl, rfl⟩
  | cmdReserved00 | cmdReserved04 | cmdReserved08 | cmdReserved10 | cmdReserved20 | cmdReserved40 | cmdReserved80 =>
    exact ⟨true, 0, s, rfl, rfl, rfl, rfl, rfl⟩
  | _ => cases h

/-- An operation that is no host command puts out no response: bytes, the tick cycle, RELEASE and RESET leave RESP alone. -/
theorem exec_resp_of_not_command {i : Instr} {s t : State} (hc : commandOps i = false) (h : exec i s = .next t) :
    t.resp = s.resp := by
  cases exec_effect h with
  | offsetRefused | offsetHeld | gainHeld | view | noView | reserved00 | reserved04 | reserved08 | reserved10 | reserved20
  | reserved40 | reserved80 => cases hc
  | _ => simp

/-- Settles O53: the pending command word is run (`step_of_pending`), it decodes to a host command, and a host command
responds once. -/
theorem everyCommandWordIsAnsweredAtOnce : Obligations.EveryCommandWordIsAnsweredAtOnce := by
  refine ⟨fun s w rest hin => ?_, fun _ _ _ hc h => exec_resp_of_not_command hc h⟩
  obtain ⟨err, data, u, hexec, hresp, hsch, hmd, hinbox⟩ :=
    exec_command_responds (commandOps_decodeCmd w) { s with inbox := rest }
  have hstep : step s = .next (respond err data u) := (step_of_pending hin rfl).trans hexec
  refine ⟨_, responseWord err data, hstep, ?_, hsch, hmd, hinbox⟩
  rw [respond_resp, hresp]

/-! ## Index arithmetic (R14) -/

/-- Between `-n` and `2n` the remainder is the number itself, corrected by `n` at most once. -/
theorem emod_eq_corrected_once {a : Int} {n : Nat} (hlo : -(n : Int) ≤ a) (hhi : a < 2 * n) :
    (emod a n : Int) = if a < 0 then a + n else if (n : Int) ≤ a then a - n else a := by
  have hcast : (emod a n : Int) = a % n := Int.toNat_of_nonneg (Int.emod_nonneg a (by omega))
  rw [hcast]
  split_ifs with hneg hbig
  · rw [← Int.add_emod_right, Int.emod_eq_of_lt (by omega) (by omega)]
  · rw [← Int.sub_emod_right, Int.emod_eq_of_lt (by omega) (by omega)]
  · exact Int.emod_eq_of_lt (by omega) (by omega)

/-- Settles O41: the tap sum lies between `-q` and `2q`, so one correction does; the write sum is one of two numbers below
`q`. -/
theorem indexesNeedOneCorrection : Obligations.IndexesNeedOneCorrection := by
  intro q b wp i d hwp hi hb hd1 hdq
  have hiq : i < q := hi.trans_le hb
  refine ⟨by omega, emod_eq_corrected_once (by omega) (by omega), by omega, ?_⟩
  rw [emod_add, Nat.add_mod_eq_ite, Nat.mod_eq_of_lt hwp, Nat.mod_eq_of_lt hiq]

end Sys2Proof.Machine

/-! PROOFS for 10_state.md: the state after reset (R38), the invariant that every operation keeps (R37), the sticky flags and
the counters (R34, R35), and the writers of each register (R21 to R35). -/

namespace Sys2Proof.Machine

/-! ## The state after reset -/

@[simp] theorem resetOf_cfg (c : Config) : (State.resetOf c).cfg = c := rfl

@[simp] theorem resetOf_dofs_toNat (c : Config) : (State.resetOf c).dofs.toNat = c.dofsReset := by
  have hc := c.constraints
  exact Nat.mod_eq_of_lt (by omega)

@[simp] theorem resetOf_gain_toNat (c : Config) : (State.resetOf c).gain.toNat = c.gainReset := by
  have hc := c.constraints
  exact Nat.mod_eq_of_lt (by omega)

/-- Settles O11: every row of the table is read off `State.resetOf`, the offset and the gain through the bounds that the
parameter record puts on them. -/
theorem resetStateIsTheTable : Obligations.ResetStateIsTheTable := by
  intro c
  exact ⟨rfl, rfl, resetOf_dofs_toNat c, resetOf_gain_toNat c, Memory.read_nil, rfl, rfl, rfl, rfl, rfl, rfl, rfl,
    List.length_replicate, List.length_replicate, fun _ => List.getElem?_replicate_of_lt, rfl, rfl, rfl, rfl, rfl, rfl, rfl,
    rfl⟩

/-- Settles O12: the constraints of the parameter record give the bounds, and the empty memories and histories the rest. -/
theorem resetStateMeetsTheInvariant : Obligations.ResetStateMeetsTheInvariant := by
  intro c
  have hc := c.constraints
  have hblk : ∀ m ∈ (State.resetOf c).blk, m = [] := fun _ => List.eq_of_mem_replicate
  exact {
    wp_lt := show 0 < c.Q by omega
    dofs_pos := by rw [resetOf_dofs_toNat]; omega
    dofs_lt := by rw [resetOf_dofs_toNat, resetOf_cfg]; omega
    gain_le := by rw [resetOf_gain_toNat, resetOf_cfg]; omega
    busy_has_status := fun hbusy => absurd rfl hbusy
    status_channel_voice := nofun
    second_has_two := nofun
    head_lt := c.midiqCap_pos
    cnt_le := Nat.zero_le _
    queued_wf := nofun
    cur_lt := c.nbuf_pos
    busy_owned := fun hbusy => absurd rfl hbusy
    err_reserved := BitVec.extractLsb'_zero
    urun_iff := by simp [State.resetOf]
    ferr_iff := by simp [State.resetOf]
    qovf_iff := by simp [State.resetOf]
    own_length := List.length_replicate
    blk_length := List.length_replicate
    buf_wf := rfl
    buf_within := rfl
    mq_wf := rfl
    mq_within := rfl
    blk_wf := fun m hm => by rw [hblk m hm]; rfl
    blk_within := fun m hm => by rw [hblk m hm]; rfl
    blkout_whole := nofun
    evout_wf := nofun }

section

variable {s : State}

/-! ## The invariant and the writes of single registers -/

/-- A condition's flag is the one bit with the condition's code (R240). -/
theorem Condition.getLsbD_flag (c : Condition) {k : Nat} (hk : k < 4) : c.flag.getLsbD k = decide (k = c.code) := by
  interval_cases k <;> cases c <;> rfl

/-- Setting a condition's flag and bumping its counter keeps a flag set exactly when its counter is not 0 (I-m). -/
theorem flag_iff_counter {e n n' : U16} {k : Nat} (h : e.getLsbD k = true ↔ 0 < n.toNat) (hk : k < 4) (c : Condition)
    (hn : n' = if k = c.code then satinc n else n) : (e ||| c.flag).getLsbD k = true ↔ 0 < n'.toNat := by
  rw [hn, BitVec.getLsbD_or, c.getLsbD_flag hk]
  by_cases hc : k = c.code
  · simp [hc, satinc_pos]
  · simpa [hc] using h

namespace State.Inv

variable (h : s.Inv)
include h

theorem setInbox (ws : List PortWord) : (s.setInbox ws).Inv := { h with }

theorem respond (err : Bool) (data : U16) : (respond err data s).Inv := { h with }

theorem setDofs {v : U16} (hpos : 1 ≤ v.toNat) (hlt : v.toNat < s.cfg.Q) : (s.setDofs v).Inv :=
  { h with dofs_pos := hpos, dofs_lt := hlt }

theorem setGain {v : U16} (hle : v.toNat ≤ s.cfg.gainMax) : (s.setGain v).Inv := { h with gain_le := hle }

theorem setD1 (v : BitVec 7) : (s.setD1 v).Inv := { h with }

theorem setMdSt {v : MdState} (hrsv : v ≠ .idle → s.rsv = true) (htwo : v = .awaitingData2 → dlen s.rs = 2) :
    (s.setMdSt v).Inv :=
  { h with busy_has_status := hrsv, second_has_two := htwo }

theorem setMdSt_idle : (s.setMdSt .idle).Inv := h.setMdSt (absurd rfl) nofun

theorem setSchSt {v : SchState} (hown : v ≠ .idle → ownerOf s s.cur = .sched) : (s.setSchSt v).Inv :=
  { h with busy_owned := hown }

theorem putEvout {evs : List EventWord} (hevs : ∀ ev ∈ evs, eventWf ev = true) : (s.putEvout evs).Inv :=
  { h with evout_wf := List.forall_mem_append.mpr ⟨h.evout_wf, List.forall_mem_singleton.mpr hevs⟩ }

theorem resetState : (resetState s).Inv :=
  { resetStateMeetsTheInvariant s.cfg with blkout_whole := h.blkout_whole, evout_wf := h.evout_wf }

/-! ## Error conditions -/

/-- `raise` sets one of the four defined flags, and the flag's counter goes with it (R240). -/
theorem raise (c : Condition) : (raise c s).Inv :=
  { h with
    err_reserved := by
      rw [raise_err, BitVec.extractLsb'_or, h.err_reserved]
      cases c <;> rfl
    urun_iff := flag_iff_counter h.urun_iff (by decide) c (by cases c <;> rfl)
    ferr_iff := flag_iff_counter h.ferr_iff (by decide) c (by cases c <;> rfl)
    qovf_iff := flag_iff_counter h.qovf_iff (by decide) c (by cases c <;> rfl) }

theorem raiseIf (b : Bool) (c : Condition) : (raiseIf b c s).Inv := by
  cases b
  · exact h
  · exact h.raise c

end State.Inv

/-! ## The event queue -/

/-- The slot after `a` in a ring of `n`. -/
theorem emod_add_one (a n : Nat) : emod ((a : Int) + 1) n = (a + 1) % n := emod_add a 1 n

/-- Two positions of a ring, counted from the same head, are the same slot only when they are the same position. -/
theorem slot_inj {cap head j k : Nat} (hj : j < cap) (hk : k < cap) (heq : (head + j) % cap = (head + k) % cap) : j = k :=
  (Nat.ModEq.add_left_cancel' head heq).eq_of_lt_of_lt hj hk

/-- The pushed event comes after the events already queued, which stay as they are (R191). -/
theorem queued_mqPush_room (ev : EventWord) (hwf : s.mq.wf = true) (hroom : s.mqCnt < s.cfg.midiqCap) :
    queued (mqPush ev s) = queued s ++ [ev] := by
  rw [mqPush_room ev hroom.ne]
  apply List.ext_getElem (by simp [queued_length])
  intro j hj _
  rw [queued_length] at hj
  rw [queued_getElem, Memory.read_write hwf]
  obtain rfl | hlt := Nat.eq_or_lt_of_le (Nat.lt_succ_iff.mp hj)
  · simp [queued_length]
  · have hslot : (s.mqHead + j) % s.cfg.midiqCap ≠ (s.mqHead + s.mqCnt) % s.cfg.midiqCap := fun heq =>
      hlt.ne (slot_inj (hlt.trans hroom) hroom heq)
    rw [if_neg hslot, List.getElem_append_left (by rwa [queued_length]), queued_getElem]

theorem mqMakeRoom_cfg (s : State) : (mqMakeRoom s).cfg = s.cfg := by
  unfold mqMakeRoom
  split <;> rfl

/-- Making room leaves at least one free slot. -/
theorem mqMakeRoom_cnt_lt (hle : s.mqCnt ≤ s.cfg.midiqCap) :
    (mqMakeRoom s).mqCnt < (mqMakeRoom s).cfg.midiqCap := by
  have hcap := s.cfg.midiqCap_pos
  rw [mqMakeRoom_cfg, mqMakeRoom]
  split
  · rw [State.setMqCursors_mqCnt]
    omega
  · omega

/-- MQ.PUSH is making room, then a push that finds it. -/
theorem mqPush_mqMakeRoom (ev : EventWord) (hle : s.mqCnt ≤ s.cfg.midiqCap) :
    mqPush ev (mqMakeRoom s) = mqPush ev s := by
  have hidem : mqMakeRoom (mqMakeRoom s) = mqMakeRoom s := if_neg (mqMakeRoom_cnt_lt hle).ne
  simp only [mqPush, hidem]

/-- A full queue makes room by losing its oldest event (R191). -/
theorem queued_mqMakeRoom_full (hfull : s.mqCnt = s.cfg.midiqCap) : queued (mqMakeRoom s) = (queued s).tail := by
  rw [mqMakeRoom, if_pos hfull]
  apply List.ext_getElem (by simp [queued_length])
  intro j _ _
  rw [queued_getElem, List.getElem_tail, queued_getElem, State.setMqCursors_mqHead, emod_add_one]
  simp only [State.setMqCursors_mq, State.setMqCursors_cfg, raise_mq, raise_cfg, Nat.mod_add_mod]
  rw [Nat.add_assoc, Nat.add_comm 1 j]

namespace State.Inv

variable (h : s.Inv)
include h

theorem mqMakeRoom : (mqMakeRoom s).Inv := by
  by_cases hfull : s.mqCnt = s.cfg.midiqCap
  · have hqueued := queued_mqMakeRoom_full hfull
    have hcnt := mqMakeRoom_cnt_lt h.cnt_le
    rw [Machine.mqMakeRoom, if_pos hfull] at hqueued hcnt ⊢
    exact { h.raise .queueOverflow with
      head_lt := show emod (s.mqHead + 1) s.cfg.midiqCap < s.cfg.midiqCap from emod_lt _ s.cfg.midiqCap_pos
      cnt_le := hcnt.le
      queued_wf := fun ev hev => h.queued_wf ev (List.mem_of_mem_tail (hqueued ▸ hev)) }
  · rwa [Machine.mqMakeRoom, if_neg hfull]

theorem mqPush_room {ev : EventWord} (hev : eventWf ev = true) (hroom : s.mqCnt < s.cfg.midiqCap) :
    (mqPush ev s).Inv := by
  have hqueued := queued_mqPush_room ev h.mq_wf hroom
  rw [Machine.mqPush_room ev hroom.ne] at hqueued ⊢
  exact { h with
    cnt_le := hroom
    mq_wf := Memory.write_wf h.mq_wf _ _
    mq_within := Memory.write_within h.mq_within (Nat.mod_lt _ s.cfg.midiqCap_pos) _
    queued_wf := by
      rw [hqueued]
      exact List.forall_mem_append.mpr ⟨h.queued_wf, List.forall_mem_singleton.mpr hev⟩ }

theorem mqPush {ev : EventWord} (hev : eventWf ev = true) : (mqPush ev s).Inv := by
  rw [← mqPush_mqMakeRoom ev h.cnt_le]
  exact h.mqMakeRoom.mqPush_room hev (mqMakeRoom_cnt_lt h.cnt_le)

theorem mqDrain : (mqDrain s).Inv :=
  { h with
    head_lt := emod_lt ((s.mqHead : Int) + s.mqCnt) s.cfg.midiqCap_pos
    cnt_le := Nat.zero_le _
    queued_wf := nofun }

end State.Inv

/-! ## The MIDI decoder -/

/-- The seven message types with bit 7 set make the status bytes 0x80 to 0xEF (R93, R131). -/
theorem statusByte_channel_voice : ∀ (type : BitVec 3) (chan : BitVec 4), type ≠ 7 →
    0x80 ≤ (statusByte type chan).toNat ∧ (statusByte type chan).toNat ≤ 0xEF := by
  decide

/-- The status bytes of messages that are events have the three event kinds in their high half (R98, R131). -/
theorem event_kind_of_emits : ∀ status : Byte, 0x80 ≤ status.toNat → emits status = true →
    status.extractLsb' 4 4 = 0x8 ∨ status.extractLsb' 4 4 = 0x9 ∨ status.extractLsb' 4 4 = 0xB := by
  decide

theorem eventWord_kind (status : Byte) (num val : BitVec 7) :
    (eventWord status num val).extractLsb' 20 4 = status.extractLsb' 4 4 := by
  apply BitVec.eq_of_getLsbD_eq
  intro i hi
  rw [BitVec.getLsbD_extractLsb', BitVec.getLsbD_extractLsb', eventWord, BitVec.getLsbD_append,
    if_neg (by omega), BitVec.getLsbD_append, if_neg (by omega), show 20 + i - 8 - 8 = 4 + i by omega]

/-- An event word's data bytes have bit 7 at 0 (R98). -/
theorem eventWord_data_bits (status : Byte) (num val : BitVec 7) :
    (eventWord status num val).getLsbD 15 = false ∧ (eventWord status num val).getLsbD 7 = false := by
  unfold eventWord
  constructor
  · rw [BitVec.getLsbD_append, if_neg (by decide), BitVec.getLsbD_append, if_pos (by decide), BitVec.getLsbD_append]
    rfl
  · rw [BitVec.getLsbD_append, if_pos (by decide), BitVec.getLsbD_append]
    rfl

theorem eventWf_eventWord {status : Byte} (hlo : 0x80 ≤ status.toNat) (hemits : emits status = true) (num val : BitVec 7) :
    eventWf (eventWord status num val) = true := by
  obtain ⟨h15, h7⟩ := eventWord_data_bits status num val
  rw [eventWf, eventWord_kind, h15, h7, decide_eq_true (event_kind_of_emits status hlo hemits)]
  rfl

namespace State.Inv

variable (h : s.Inv)
include h

theorem channelStatus {b : Byte} (hb : 0x80 ≤ b.toNat ∧ b.toNat ≤ 0xEF) : (channelStatus b s).Inv :=
  { h.raiseIf (decide (s.mdSt ≠ .idle)) .framingError with
    busy_has_status := fun _ => rfl
    status_channel_voice := fun _ => hb
    second_has_two := nofun }

theorem systemByte : (systemByte s).Inv :=
  { h.raiseIf (decide (s.mdSt ≠ .idle)) .framingError with
    busy_has_status := fun hbusy => absurd rfl hbusy
    status_channel_voice := nofun
    second_has_two := nofun }

theorem firstDataByte (v : BitVec 7) (hrsv : s.rsv = true) : (firstDataByte v s).Inv := by
  unfold Machine.firstDataByte
  split
  · next htwo => exact (h.setD1 v).setMdSt (fun _ => hrsv) fun _ => htwo
  · exact h.setMdSt_idle

theorem secondDataByte (v : BitVec 7) (hrsv : s.rsv = true) : (secondDataByte v s).Inv := by
  unfold Machine.secondDataByte
  split
  · next hemits =>
    exact (h.mqPush (eventWf_eventWord (h.status_channel_voice hrsv).1 hemits s.d1 v)).setMdSt_idle
  · exact h.setMdSt_idle

theorem dataByte (v : BitVec 7) : (dataByte v s).Inv := by
  unfold Machine.dataByte
  split
  · next hst => exact h.secondDataByte v (h.busy_has_status (by simp [hst]))
  · next hst => exact h.firstDataByte v (h.busy_has_status (by simp [hst]))
  · split
    · next hrsv => exact h.firstDataByte v hrsv
    · exact h.raise _

end State.Inv

/-! ## Block buffers and the tick cycle -/

theorem blockOf_mem_or_nil (s : State) (k : Nat) : blockOf s k ∈ s.blk ∨ blockOf s k = [] := by
  unfold blockOf
  by_cases hk : k < s.blk.length
  · rw [List.getD_eq_getElem _ _ hk]
    exact .inl (List.getElem_mem hk)
  · exact .inr (List.getD_eq_default _ _ (Nat.not_lt.mp hk))

namespace State.Inv

theorem blockOf_wf (h : s.Inv) (k : Nat) : (blockOf s k).wf = true := by
  rcases blockOf_mem_or_nil s k with hmem | hnil
  · exact h.blk_wf _ hmem
  · rw [hnil]; rfl

theorem blockOf_within (h : s.Inv) (k : Nat) : (blockOf s k).within s.cfg.B = true := by
  rcases blockOf_mem_or_nil s k with hmem | hnil
  · exact h.blk_within _ hmem
  · rw [hnil]; rfl

variable (h : s.Inv)
include h

theorem setBlock (k : Nat) {m : Memory 16} (hwf : m.wf = true) (hwithin : m.within s.cfg.B = true) :
    (s.setBlock k m).Inv :=
  { h with
    blk_length := List.length_set.trans h.blk_length
    blk_wf := fun m' hm' => (List.mem_or_eq_of_mem_set hm').elim (h.blk_wf m') fun heq => heq ▸ hwf
    blk_within := fun m' hm' => (List.mem_or_eq_of_mem_set hm').elim (h.blk_within m') fun heq => heq ▸ hwithin }

theorem storeBlock (k : Nat) {r : List Sample} (hr : r.length = s.cfg.B) : (storeBlock k r s).Inv :=
  h.setBlock k (Memory.writeFrom_wf (h.blockOf_wf k) 0 r)
    (Memory.writeFrom_within (h.blockOf_within k) 0 r (by omega))

theorem dlProcess (xs : List Sample) : (dlProcess xs s).2.Inv :=
  have hQ : 0 < s.cfg.Q := Nat.zero_lt_of_lt s.cfg.two_le_Q
  { h with
    wp_lt := (nextWp_toNat s.cfg s.wp).trans_lt (Nat.mod_lt _ hQ)
    buf_wf := dlRun_wf _ _ _ _ 0 xs h.buf_wf
    buf_within := dlRun_within hQ _ _ _ 0 xs h.buf_within }

/-- A buffer given back to the scheduler takes nothing from a cycle in progress (R208). -/
theorem setOwner_sched (k : Nat) : (s.setOwner k .sched).Inv :=
  { h with
    own_length := List.length_set.trans h.own_length
    busy_owned := fun hbusy => by
      by_cases hk : s.cur = k
      · rw [← hk]
        exact ownerOf_setOwner_same s _ (h.own_length ▸ h.cur_lt)
      · exact (ownerOf_setOwner_ne s _ hk).trans (h.busy_owned hbusy) }

/-- The current buffer's block is whole and from the ring (R106). -/
theorem putBlkout : (s.putBlkout ⟨s.cur, samplesOf s s.cur⟩).Inv :=
  { h with
    blkout_whole := List.forall_mem_append.mpr
      ⟨h.blkout_whole, List.forall_mem_singleton.mpr ⟨samplesOf_length s s.cur, h.cur_lt⟩⟩ }

/-- In Idle no buffer has to belong to the scheduler (I-k). -/
theorem setOwner_of_idle (hidle : s.schSt = .idle) (k : Nat) (o : Owner) : (s.setOwner k o).Inv :=
  { h with
    own_length := List.length_set.trans h.own_length
    busy_owned := fun hbusy => absurd hidle hbusy }

theorem setCur_of_idle (hidle : s.schSt = .idle) {v : Nat} (hv : v < s.cfg.nbuf) : (s.setCur v).Inv :=
  { h with
    cur_lt := hv
    busy_owned := fun hbusy => absurd hidle hbusy }

/-- EMIT ends in Idle, so the buffer it hands over belongs to no cycle (R207). -/
theorem emitted : ((((s.putBlkout ⟨s.cur, samplesOf s s.cur⟩).setOwner s.cur .sink).setCur
    ((s.cur + 1) % s.cfg.nbuf)).setSchSt .idle).Inv :=
  ((h.putBlkout.setSchSt (v := .idle) (absurd rfl)).setOwner_of_idle rfl s.cur .sink).setCur_of_idle rfl
    (Nat.mod_lt _ s.cfg.nbuf_pos)

end State.Inv

/-! ## Every operation, every step, every trace -/

/-- Each effect is built from writes that keep the invariant, given what decided the case. -/
theorem exec_keeps_inv {i : Instr} {t : State} (h : s.Inv) (hexec : exec i s = .next t) : t.Inv := by
  have hc := s.cfg.constraints
  cases exec_effect hexec with
  | data v => exact h.dataByte v
  | noteOff chan | noteOn chan | polyAt chan | cc chan | prog chan | chanAt chan | pBend chan =>
    exact h.channelStatus (statusByte_channel_voice _ chan (by decide))
  | sys => exact h.systemByte
  | offsetRefused => exact (h.raise _).respond _ _
  | offsetHeld _ _ _ hv => exact (h.setDofs (by omega) (by omega)).respond _ _
  | gainHeld _ _ hv => exact (h.setGain (by omega)).respond _ _
  | view | noView | reserved00 | reserved04 | reserved08 | reserved10 | reserved20 | reserved40 | reserved80 =>
    exact h.respond _ _
  | tickAccepted _ hown => exact (h.mqDrain.putEvout h.queued_wf).setSchSt fun _ => hown
  | tickDropped => exact h.raise _
  | rendered _ hlen hst => exact (h.storeBlock s.cur hlen).setSchSt fun _ => h.busy_owned (by simp [hst])
  | renderIgnored | releaseIgnored => exact h
  | released k => exact h.setOwner_sched k
  | reset => exact h.resetState
  | delayed hst =>
    have hlen : (Machine.dlProcess (samplesOf s s.cur) s).1.length = s.cfg.B := by simp [dlProcess_fst]
    exact ((h.dlProcess _).storeBlock s.cur hlen).setSchSt fun _ => h.busy_owned (by simp [hst])
  | emitted => exact h.emitted

/-- What every operation keeps, every trace keeps. -/
theorem runTrace_keeps {P : State → Prop} (hexec : ∀ {i s t}, P s → exec i s = .next t → P t) {ops : List Instr}
    {s t : State} (hs : P s) (hrun : runTrace ops s = .next t) : P t := by
  induction ops generalizing s with
  | nil => cases hrun; exact hs
  | cons i rest ih =>
    rw [runTrace] at hrun
    split at hrun
    · next hi => exact ih (hexec hs hi) hrun
    · cases hrun
    · cases hrun

/-! ## Error flags and counters (R34, R35) -/

/-- `ERR` and the three counters, which only `raise` and RESET write. -/
def State.errors (s : State) : U16 × U16 × U16 × U16 := (s.err, s.urunCnt, s.ferrCnt, s.qovfCnt)

theorem mqPush_errors (ev : EventWord) :
    (mqPush ev s).errors = (raiseIf (decide (s.mqCnt = s.cfg.midiqCap)) .queueOverflow s).errors := by
  by_cases hfull : s.mqCnt = s.cfg.midiqCap
  · simp [State.errors, mqPush_full ev hfull, hfull]
  · simp [State.errors, mqPush_room ev hfull, hfull]

theorem firstDataByte_errors (v : BitVec 7) : (firstDataByte v s).errors = s.errors := by
  unfold firstDataByte
  split <;> rfl

/-- A data byte raises at most one condition: the overflow of its push, or the framing error of a stray byte. -/
theorem dataByte_errors (v : BitVec 7) : ∃ b c, (dataByte v s).errors = (raiseIf b c s).errors := by
  unfold dataByte
  split
  · unfold secondDataByte
    split
    · exact ⟨_, _, mqPush_errors (eventWord s.rs s.d1 v)⟩
    · exact ⟨false, .queueOverflow, rfl⟩
  · exact ⟨false, .framingError, firstDataByte_errors v⟩
  · split
    · exact ⟨false, .framingError, firstDataByte_errors v⟩
    · exact ⟨true, .framingError, rfl⟩

/-- An operation other than RESET raises at most one condition, and writes `ERR` and the counters in no other way. -/
theorem exec_errors {i : Instr} {t : State} (h : exec i s = .next t) (hi : i ≠ .reset) :
    ∃ b c, t.errors = (raiseIf b c s).errors := by
  cases exec_effect h with
  | data v => exact dataByte_errors v
  | noteOff | noteOn | polyAt | cc | prog | chanAt | pBend | sys =>
    exact ⟨decide (s.mdSt ≠ .idle), .framingError, by simp [State.errors, channelStatus, systemByte]⟩
  | offsetRefused => exact ⟨true, .offsetOutOfRange, rfl⟩
  | tickDropped => exact ⟨true, .underrun, rfl⟩
  | reset => exact absurd rfl hi
  | _ => exact ⟨false, .underrun, by simp [State.errors]⟩

theorem le_satinc (n : U16) : n.toNat ≤ (satinc n).toNat := by
  have hn := n.isLt
  rw [satinc_toNat]
  omega

/-- `raise` clears no flag and lowers no counter. -/
theorem raiseIf_grows (b : Bool) (c : Condition) (s : State) :
    s.err &&& (raiseIf b c s).err = s.err ∧ s.urunCnt.toNat ≤ (raiseIf b c s).urunCnt.toNat ∧
      s.ferrCnt.toNat ≤ (raiseIf b c s).ferrCnt.toNat ∧ s.qovfCnt.toNat ≤ (raiseIf b c s).qovfCnt.toNat := by
  cases b with
  | false => exact ⟨BitVec.and_self, le_rfl, le_rfl, le_rfl⟩
  | true =>
    refine ⟨BitVec.eq_of_getLsbD_eq fun k _ => by simp +contextual, ?_⟩
    cases c <;> simp [urunAfter, ferrAfter, qovfAfter, le_satinc]

end

/-! ## The invariant along steps and traces (R37) -/

/-- Settles O13: a step is one operation after the fetch (`exec_keeps_inv`), or rest. -/
theorem everyStepKeepsTheInvariant : Obligations.EveryStepKeepsTheInvariant := by
  intro s t h hstep
  rcases step_next_cases hstep with ⟨i, -, hexec⟩ | ⟨-, rfl⟩
  · exact exec_keeps_inv (h.setInbox s.inbox.tail) hexec
  · exact h

/-- Settles O14: the invariant holds after reset (O12) and every operation keeps it. -/
theorem everyReachableStateMeetsTheInvariant : Obligations.EveryReachableStateMeetsTheInvariant := by
  intro c ops t hrun
  exact runTrace_keeps exec_keeps_inv (resetStateMeetsTheInvariant c) hrun

/-! ## Flags and counters never go back (R34, R35) -/

/-- Settles O19: at most one condition is raised (`exec_errors`), and raising one only adds (`raiseIf_grows`). -/
theorem flagsAndCountersNeverGoBack : Obligations.FlagsAndCountersNeverGoBack := by
  intro s t i h hi
  obtain ⟨b, c, herrors⟩ := exec_errors h hi
  simp only [State.errors, Prod.mk.injEq] at herrors
  obtain ⟨herr, hurun, hferr, hqovf⟩ := herrors
  rw [herr, hurun, hferr, hqovf]
  exact raiseIf_grows b c s

/-! ## Which operation writes what (R21 to R35) -/

/-- Settles O56, agent by agent: the writes that an effect is built of name the fields it can change. -/
theorem eachRegisterIsWrittenOnlyByItsOperations : Obligations.EachRegisterIsWrittenOnlyByItsOperations := by
  intro s t i h hi
  cases exec_effect h with
  -- The byte source: the decoder, the queue and the two conditions a byte can raise.
  | data | noteOff | noteOn | polyAt | cc | prog | chanAt | pBend | sys => simp [byteOps]
  -- The host: a response, and the offset or the gain, or the flag of a refused offset.
  | offsetRefused => simp [commandOps, urunAfter, ferrAfter, qovfAfter]
  | offsetHeld | gainHeld | view | noView | reserved00 | reserved04 | reserved08 | reserved10 | reserved20 | reserved40
  | reserved80 => simp [commandOps]
  -- The tick: the queue's cursors and EVOUT, or the underrun.
  | tickAccepted => simp
  | tickDropped => simp [ferrAfter, qovfAfter]
  -- The renderer and the two internal steps: a block, the delay line, the hand-over.
  | rendered | delayed | emitted => simp
  -- The sink: an owner bit.
  | released => simp
  | renderIgnored | releaseIgnored => simp
  | reset => exact absurd rfl hi

end Sys2Proof.Machine

/-! PROOFS for 20_memory.md: a memory in canonical form is determined by its reads (R60). -/

namespace Sys2Proof.Machine

section

variable {w : Nat} {m : Memory w} {a b : Nat} {v : BitVec w}

/-! ## The canonical form, cell by cell -/

theorem Memory.wf_cons_iff :
    Memory.wf ((a, v) :: m) = true ↔
      v ≠ 0#w ∧ m.all (fun cell => decide (a < cell.1)) = true ∧ m.wf = true := by
  simp only [Memory.wf, Bool.and_eq_true, decide_eq_true_eq, and_assoc]

theorem Memory.read_cons_self : Memory.read ((a, v) :: m) a = v := if_pos rfl

theorem Memory.read_cons_of_ne (h : b ≠ a) : Memory.read ((a, v) :: m) b = m.read b := if_neg h

/-- The first listed index is the lowest one that does not read 0. -/
theorem Memory.head_le_of_read_ne_zero (hm : Memory.wf ((a, v) :: m) = true)
    (hb : Memory.read ((a, v) :: m) b ≠ 0#w) : a ≤ b := by
  obtain ⟨-, hall, -⟩ := Memory.wf_cons_iff.mp hm
  by_contra hlt
  have hba : b < a := Nat.lt_of_not_le hlt
  apply hb
  rw [Memory.read_cons_of_ne hba.ne, Memory.read_of_all_lt (Memory.all_lt_of_le hall hba.le)]

/-- The tail reads as the whole memory does, but 0 at the head's index. -/
theorem Memory.read_tail (hm : Memory.wf ((a, v) :: m) = true) (b : Nat) :
    m.read b = if b = a then 0#w else Memory.read ((a, v) :: m) b := by
  obtain ⟨-, hall, -⟩ := Memory.wf_cons_iff.mp hm
  split_ifs with h
  · rw [h, Memory.read_of_all_lt hall]
  · rw [Memory.read_cons_of_ne h]

/-- A memory in canonical form that reads 0 everywhere lists nothing. -/
theorem Memory.eq_nil_of_read_eq_zero (hm : m.wf = true) (h : ∀ x, m.read x = 0#w) : m = [] := by
  cases m with
  | nil => rfl
  | cons cell m =>
    obtain ⟨hv, -, -⟩ := Memory.wf_cons_iff.mp hm
    exact absurd (Memory.read_cons_self.symm.trans (h cell.1)) hv

end

/-! ## Equal reads, equal memories (R60) -/

/-- Settles O57, by induction on one memory: each head is the lowest index that does not read 0, so the heads agree, and
without them the tails read alike. -/
theorem canonicalMemoriesAreTheirReads : Obligations.CanonicalMemoriesAreTheirReads := by
  intro w m
  induction m with
  | nil =>
    intro m' _ hm' hread
    exact (Memory.eq_nil_of_read_eq_zero hm' fun a => (hread a).symm).symm
  | cons cell m ih =>
    obtain ⟨a, u⟩ := cell
    rintro (_ | ⟨⟨b, v⟩, m'⟩) hm hm' hread
    · exact Memory.eq_nil_of_read_eq_zero hm hread
    · obtain ⟨hu, -, hwf⟩ := Memory.wf_cons_iff.mp hm
      obtain ⟨hv, -, hwf'⟩ := Memory.wf_cons_iff.mp hm'
      have hab : a ≤ b := Memory.head_le_of_read_ne_zero hm (by rwa [hread, Memory.read_cons_self])
      have hba : b ≤ a := Memory.head_le_of_read_ne_zero hm' (by rwa [← hread, Memory.read_cons_self])
      obtain rfl : a = b := Nat.le_antisymm hab hba
      have huv : u = v := by simpa only [Memory.read_cons_self] using hread a
      have htails : m = m' := ih m' hwf hwf' fun x => by
        rw [Memory.read_tail hm, Memory.read_tail hm', hread]
      rw [huv, htails]

end Sys2Proof.Machine

/-! PROOFS for 30_encoding.md: the decoder and the encoder are inverse to each other (R93 to R105), the opcode table's rows
share no word (R94, R103), and what a step does with a word (R105). -/

namespace Sys2Proof

/-! ## A word as a high field beside a low field -/

section

variable {m k : Nat}

theorem toNat_append_eq_add (hi : BitVec m) (lo : BitVec k) : (hi ++ lo).toNat = hi.toNat * 2 ^ k + lo.toNat := by
  rw [BitVec.toNat_append, ← Nat.shiftLeft_add_eq_or_of_lt lo.isLt, Nat.shiftLeft_eq]

theorem toNat_append_div (hi : BitVec m) (lo : BitVec k) : (hi ++ lo).toNat / 2 ^ k = hi.toNat := by
  rw [toNat_append_eq_add, Nat.mul_comm, Nat.mul_add_div (Nat.two_pow_pos k), Nat.div_eq_of_lt lo.isLt, Nat.add_zero]

theorem append_left_inj {hi hi' : BitVec m} (lo : BitVec k) : hi ++ lo = hi' ++ lo ↔ hi = hi' := by
  refine ⟨fun h => BitVec.eq_of_toNat_eq ?_, fun h => h ▸ rfl⟩
  rw [← toNat_append_div hi lo, h, toNat_append_div]

theorem exists_append_eq (w : BitVec (m + k)) : ∃ (hi : BitVec m) (lo : BitVec k), hi ++ lo = w :=
  ⟨w.extractLsb' k m, w.extractLsb' 0 k, by
    rw [BitVec.extractLsb'_append_extractLsb'_eq_extractLsb' (Nat.zero_add k).symm, BitVec.extractLsb'_eq_self]⟩

/-- A word is put together again from its low field, once its high field is known. -/
theorem append_low_of_div_eq {hi : BitVec m} {w : BitVec (m + k)} (h : w.toNat / 2 ^ k = hi.toNat) :
    hi ++ w.extractLsb' 0 k = w := by
  obtain ⟨hi', lo, rfl⟩ := exists_append_eq w
  rw [toNat_append_div] at h
  rw [BitVec.extractLsb'_append_eq_right, BitVec.eq_of_toNat_eq h]

/-- A match under a mask of the high bits fixes the high field: it is a range of numbers. -/
theorem and_highMask_eq_iff (hi : BitVec m) (w : BitVec (m + k)) :
    w &&& (BitVec.allOnes m ++ 0#k) = hi ++ 0#k ↔ w.toNat / 2 ^ k = hi.toNat := by
  obtain ⟨hi', lo, rfl⟩ := exists_append_eq w
  rw [BitVec.and_append, BitVec.and_allOnes, BitVec.and_zero, append_left_inj, toNat_append_div, BitVec.toNat_inj]

end

/-! ## The decoder's masks as ranges -/

/-- The byte classes of R94 as ranges of the byte. -/
theorem decodeMidi_eq_ranges (b : Byte) : decodeMidi b =
    if b.toNat / 128 = 0 then .mdData (val7Field b)
    else if b.toNat / 16 = 8 then .mdNoteOff (chanField b)
    else if b.toNat / 16 = 9 then .mdNoteOn (chanField b)
    else if b.toNat / 16 = 10 then .mdPolyAt (chanField b)
    else if b.toNat / 16 = 11 then .mdCc (chanField b)
    else if b.toNat / 16 = 12 then .mdProg (chanField b)
    else if b.toNat / 16 = 13 then .mdChanAt (chanField b)
    else if b.toNat / 16 = 14 then .mdPBend (chanField b)
    else .mdSys (chanField b) :=
  have kind (hi : BitVec 4) : b &&& 0xF0 = hi ++ 0#4 ↔ b.toNat / 16 = hi.toNat := and_highMask_eq_iff (k := 4) hi b
  if_congr (and_highMask_eq_iff (k := 7) 0#1 b) rfl <| if_congr (kind 8) rfl <| if_congr (kind 9) rfl <|
  if_congr (kind 10) rfl <| if_congr (kind 11) rfl <| if_congr (kind 12) rfl <| if_congr (kind 13) rfl <|
  if_congr (kind 14) rfl rfl

/-- The commands of R100 to R102 and the ranges of R103 as ranges of `op`. -/
theorem decodeOp_eq_ranges (op : BitVec 8) (arg : U16) : decodeOp op arg =
    if op.toNat = 1 then .setOfs arg
    else if op.toNat = 2 then .setGain arg
    else if op.toNat = 3 then .rdStat arg
    else if op.toNat = 0 then .cmdReserved00 arg
    else if op.toNat / 4 = 1 then .cmdReserved04 (op.extractLsb' 0 2) arg
    else if op.toNat / 8 = 1 then .cmdReserved08 (op.extractLsb' 0 3) arg
    else if op.toNat / 16 = 1 then .cmdReserved10 (op.extractLsb' 0 4) arg
    else if op.toNat / 32 = 1 then .cmdReserved20 (op.extractLsb' 0 5) arg
    else if op.toNat / 64 = 1 then .cmdReserved40 (op.extractLsb' 0 6) arg
    else .cmdReserved80 (op.extractLsb' 0 7) arg :=
  if_congr BitVec.toNat_inj.symm rfl <| if_congr BitVec.toNat_inj.symm rfl <|
  if_congr BitVec.toNat_inj.symm rfl <| if_congr BitVec.toNat_inj.symm rfl <|
  if_congr (and_highMask_eq_iff (k := 2) 1#6 op) rfl <| if_congr (and_highMask_eq_iff (k := 3) 1#5 op) rfl <|
  if_congr (and_highMask_eq_iff (k := 4) 1#4 op) rfl <| if_congr (and_highMask_eq_iff (k := 5) 1#3 op) rfl <|
  if_congr (and_highMask_eq_iff (k := 6) 1#2 op) rfl rfl

/-! ## Decoding an encoding -/

theorem decodeMidi_data (v : BitVec 7) : decodeMidi (0b0#1 ++ v) = .mdData v := by
  have hclass : BitVec.toNat (0b0#1 ++ v) / 128 = 0 := toNat_append_div 0#1 v
  rw [decodeMidi_eq_ranges, if_pos hclass, val7Field, BitVec.extractLsb'_append_eq_right]

/-- A byte `kind ‖ chan` is decoded by its kind alone, and carries its channel (R93). -/
theorem decodeMidi_kind_append (kind chan : BitVec 4) : decodeMidi (kind ++ chan) =
    if kind.toNat / 8 = 0 then .mdData (val7Field (kind ++ chan))
    else if kind.toNat = 8 then .mdNoteOff chan
    else if kind.toNat = 9 then .mdNoteOn chan
    else if kind.toNat = 10 then .mdPolyAt chan
    else if kind.toNat = 11 then .mdCc chan
    else if kind.toNat = 12 then .mdProg chan
    else if kind.toNat = 13 then .mdChanAt chan
    else if kind.toNat = 14 then .mdPBend chan
    else .mdSys chan := by
  have hkind : BitVec.toNat (kind ++ chan) / 16 = kind.toNat := toNat_append_div kind chan
  have hdata : BitVec.toNat (kind ++ chan) / 128 = kind.toNat / 8 := by omega
  rw [decodeMidi_eq_ranges, hkind, hdata, chanField, BitVec.extractLsb'_append_eq_right]

theorem decodeCmd_append (op : BitVec 8) (arg : U16) : decodeCmd (op ++ arg) = decodeOp op arg := by
  rw [decodeCmd, opField_append, argField_append]

/-- Settles O1, by the constructors: a MIDI byte is decoded by its high field, a command by its `op`, whose leading 1 fixes
the range of a reserved one, and a strobe at 1 carries its payload. -/
theorem decodeOfEncodeIsTheOperation : Obligations.DecodeOfEncodeIsTheOperation := by
  intro c i hwf
  cases i with
  | mdData v => exact congrArg Except.ok (decodeMidi_data v)
  | mdNoteOff chan | mdNoteOn chan | mdPolyAt chan | mdCc chan | mdProg chan | mdChanAt chan | mdPBend chan
  | mdSys chan => exact congrArg Except.ok (decodeMidi_kind_append _ chan)
  | setOfs arg | setGain arg | rdStat arg | cmdReserved00 arg => exact congrArg Except.ok (decodeCmd_append _ arg)
  | cmdReserved04 op arg | cmdReserved08 op arg | cmdReserved10 op arg | cmdReserved20 op arg | cmdReserved40 op arg
  | cmdReserved80 op arg =>
    refine congrArg Except.ok ((decodeCmd_append _ arg).trans ?_)
    simp only [decodeOp_eq_ranges, BitVec.extractLsb'_append_eq_right, toNat_append_eq_add, BitVec.toNat_ofNat,
      Nat.reducePow, Nat.reduceMod, Nat.reduceMul]
    simp (disch := omega) only [if_pos, if_neg]
  | render r =>
    have hlen : r.length = c.B := of_decide_eq_true hwf
    exact if_neg fun h => h.2 hlen
  | tick | release k | reset | delay | emit => rfl

/-! ## Encoding what a word decodes to -/

/-- Every branch of the decoder fixes the byte's high field, and the low field is the operand. -/
theorem encode_decodeMidi (b : Byte) : encode (decodeMidi b) = .midiIn b := by
  have hb := b.isLt
  rw [decodeMidi_eq_ranges]
  repeat' split
  all_goals exact congrArg PortWord.midiIn (append_low_of_div_eq (by rw [BitVec.toNat_ofNat]; omega))

/-- The first four branches fix the whole of `op`, the other six its high field. -/
theorem encode_decodeOp (op : BitVec 8) (arg : U16) : encode (decodeOp op arg) = .cmdIn (op ++ arg) := by
  have hop := op.isLt
  have word {o : BitVec 8} (h : o = op) : PortWord.cmdIn (o ++ arg) = .cmdIn (op ++ arg) := h ▸ rfl
  rw [decodeOp_eq_ranges]
  repeat' split
  iterate 4 · exact word (BitVec.eq_of_toNat_eq (Eq.symm ‹_›))
  all_goals exact word (append_low_of_div_eq (by rw [BitVec.toNat_ofNat]; omega))

theorem encode_decodeCmd (w : CommandWord) : encode (decodeCmd w) = .cmdIn w := by
  rw [decodeCmd, encode_decodeOp, opField_append_argField]

/-- Only a word on RENDER_IN carries a payload that is checked (R203). -/
theorem wellFormed_of_port_ne {i : Instr} (c : Config) (h : (encode i).port ≠ .renderIn) : i.wellFormed c = true := by
  cases i with
  | render r => exact absurd rfl h
  | _ => rfl

theorem strobed_eq_ok_iff {strobe : BitVec 1} {i j : Instr} : strobed strobe i = .ok j ↔ strobe = 1#1 ∧ i = j := by
  unfold strobed
  split_ifs with h <;> simp [h]

theorem decode_renderIn_eq_ok_iff {c : Config} {strobe : BitVec 1} {r : List Sample} {i : Instr} :
    decode c (.renderIn strobe r) = .ok i ↔ strobe = 1#1 ∧ r.length = c.B ∧ .render r = i := by
  rw [decode]
  split_ifs with h
  · simp [h.2]
  · rw [strobed_eq_ok_iff]
    tauto

theorem decode_step_eq_ok_iff {c : Config} {code : BitVec 2} {i : Instr} :
    decode c (.step code) = .ok i ↔ code = 0b10#2 ∧ .delay = i ∨ code = 0b11#2 ∧ .emit = i := by
  rw [decode]
  split_ifs with h h' <;> simp [*]

/-- Settles O2, port by port. -/
theorem decodedWordIsTheEncoding : Obligations.DecodedWordIsTheEncoding := by
  intro c w i h
  cases w with
  | midiIn b =>
    cases h
    exact ⟨encode_decodeMidi b, wellFormed_of_port_ne c (encode_decodeMidi b ▸ nofun)⟩
  | cmdIn w =>
    cases h
    exact ⟨encode_decodeCmd w, wellFormed_of_port_ne c (encode_decodeCmd w ▸ nofun)⟩
  | tickIn strobe | releaseIn strobe k | resetIn strobe =>
    obtain ⟨rfl, rfl⟩ := strobed_eq_ok_iff.mp h
    exact ⟨rfl, rfl⟩
  | renderIn strobe r =>
    obtain ⟨rfl, hlen, rfl⟩ := decode_renderIn_eq_ok_iff.mp h
    exact ⟨rfl, decide_eq_true hlen⟩
  | step code =>
    obtain ⟨rfl, rfl⟩ | ⟨rfl, rfl⟩ := decode_step_eq_ok_iff.mp h
    · exact ⟨rfl, rfl⟩
    · exact ⟨rfl, rfl⟩

/-! ## The opcode table's rows share no word -/

/-- Two rows share no word: they are on different ports, or their patterns differ in a bit that both masks take. -/
def OpcodeRow.disjoint (row row' : OpcodeRow) : Bool :=
  decide (row.port ≠ row'.port) || decide (row.pattern &&& row'.mask ≠ row'.pattern &&& row.mask)

/-- A word that two rows admit shows that the rows are not disjoint. -/
theorem OpcodeRow.not_disjoint_of_admits {row row' : OpcodeRow} {w : PortWord} (h : row.admits w = true)
    (h' : row'.admits w = true) : ¬ row.disjoint row' = true := by
  simp only [OpcodeRow.admits, Bool.and_eq_true, decide_eq_true_eq] at h h'
  obtain ⟨hport, hbits⟩ := h
  obtain ⟨hport', hbits'⟩ := h'
  have hpatterns : row.pattern &&& row'.mask = row'.pattern &&& row.mask := by
    rw [← hbits, ← hbits', Nat.and_assoc, Nat.and_assoc, Nat.and_comm row.mask]
  simp [OpcodeRow.disjoint, hpatterns, ← hport, ← hport']

theorem OpcodeRow.disjoint_irrefl (row : OpcodeRow) : ¬ row.disjoint row = true := by simp [OpcodeRow.disjoint]

theorem OpcodeRow.disjoint_symm {row row' : OpcodeRow} (h : row.disjoint row' = true) : row'.disjoint row = true := by
  simpa only [OpcodeRow.disjoint, ne_comm] using h

/-- No word is in two rows of the table (R94, R103), read off the 25 patterns and masks. -/
theorem opcodeRows_pairwise_disjoint : opcodeRows.Pairwise fun row row' => row.disjoint row' = true := by decide

theorem opcodeRows_nodup : opcodeRows.Nodup := by
  refine opcodeRows_pairwise_disjoint.imp fun {row row'} h heq => ?_
  exact row.disjoint_irrefl (heq ▸ h)

theorem eq_of_admits {row row' : OpcodeRow} {w : PortWord} (hrow : row ∈ opcodeRows) (hrow' : row' ∈ opcodeRows)
    (h : row.admits w = true) (h' : row'.admits w = true) : row = row' := by
  have hsymm : Std.Symm fun r r' : OpcodeRow => r.disjoint r' = true := ⟨fun _ _ => OpcodeRow.disjoint_symm⟩
  by_contra hne
  exact OpcodeRow.not_disjoint_of_admits h h' (opcodeRows_pairwise_disjoint.forall hrow hrow' hne)

/-- A row does not depend on the operands, so it is that of the operation's example. -/
theorem row_mem_opcodeRows (i : Instr) : i.row ∈ opcodeRows := by
  cases i <;>
    simp only [opcodeRows, rowExamples, Instr.row, List.map_append, List.map_cons, List.map_nil, List.mem_append,
      List.mem_cons, true_or, or_true]

open Laws.RowMatch in
/-- Each constructor's lemma of `RowMatch`, put together. -/
theorem row_admits_encode : ∀ i : Instr, i.row.admits (encode i) = true
  | .mdData v => mdData v
  | .mdNoteOff chan => mdNoteOff chan
  | .mdNoteOn chan => mdNoteOn chan
  | .mdPolyAt chan => mdPolyAt chan
  | .mdCc chan => mdCc chan
  | .mdProg chan => mdProg chan
  | .mdChanAt chan => mdChanAt chan
  | .mdPBend chan => mdPBend chan
  | .mdSys low => mdSys low
  | .setOfs n => setOfs n
  | .setGain g => setGain g
  | .rdStat r => rdStat r
  | .cmdReserved00 arg => cmdReserved00 arg
  | .cmdReserved04 op arg => cmdReserved04 op arg
  | .cmdReserved08 op arg => cmdReserved08 op arg
  | .cmdReserved10 op arg => cmdReserved10 op arg
  | .cmdReserved20 op arg => cmdReserved20 op arg
  | .cmdReserved40 op arg => cmdReserved40 op arg
  | .cmdReserved80 op arg => cmdReserved80 op arg
  | .tick => tick
  | .render r => render r
  | .release k => release k
  | .reset => reset
  | .delay => delay
  | .emit => emit

/-- The rows that admit an operation's word are exactly one, its own. -/
theorem filter_admits_encode (i : Instr) : opcodeRows.filter (fun row => row.admits (encode i)) = [i.row] := by
  have hmem := row_mem_opcodeRows i
  have hadmits : ∀ row ∈ opcodeRows, row.admits (encode i) = decide (row = i.row) := by
    intro row hrow
    rw [Bool.eq_iff_iff, decide_eq_true_eq]
    exact ⟨fun h => eq_of_admits hrow hmem h (row_admits_encode i), fun h => h ▸ row_admits_encode i⟩
  rw [List.filter_congr hadmits, List.filter_eq, List.count_eq_one_of_mem opcodeRows_nodup hmem, List.replicate_one]

/-- Settles O4: the word is the encoding of what it decodes to, and an encoding is in its operation's row alone. -/
theorem everyCommandWordIsInExactlyOneRow : Obligations.EveryCommandWordIsInExactlyOneRow := by
  intro w
  simpa only [encode_decodeCmd] using filter_admits_encode (decodeCmd w)

/-- Settles O3, as O4: the byte is the encoding of what it decodes to. -/
theorem everyByteIsInExactlyOneClass : Obligations.EveryByteIsInExactlyOneClass := by
  intro b
  simpa only [encode_decodeMidi] using filter_admits_encode (decodeMidi b)

/-! ## Fixed words, and words of no operation -/

/-- Settles O5, by running the decoder on the written-out words. -/
theorem writtenOutWordsDecodeAsTheSpecSays : Obligations.WrittenOutWordsDecodeAsTheSpecSays := by
  unfold Obligations.WrittenOutWordsDecodeAsTheSpecSays
  decide

theorem strobed_zero (i : Instr) : strobed 0#1 i = .error .strobeNotAsserted := rfl

/-- Settles O6: a strobe at 0 is none (`strobed_zero`), and the length test comes before the strobe is taken. -/
theorem wordsOfNoOperationAreRejectedByName : Obligations.WordsOfNoOperationAreRejectedByName := by
  intro c r k
  have hrender : decode c (.renderIn 0#1 r) = .error .strobeNotAsserted := by
    rw [decode, if_neg fun h => absurd h.1 (by decide), strobed_zero]
  exact ⟨strobed_zero _, hrender, strobed_zero _, strobed_zero _, rfl, rfl, fun hlen => if_pos ⟨rfl, hlen⟩⟩

end Sys2Proof

namespace Sys2Proof.Machine

/-! ## What a step does with a word -/

theorem onReject_pending {s : State} {w : PortWord} {rest : List PortWord} (hin : s.inbox = w :: rest) (why : Reject) :
    onReject why s = .refused (.rejected why) := by
  simp only [onReject, hin]

/-- Settles O9: the first pending word is the one that is fetched, and it is rejected. -/
theorem stepRefusesAWordOfNoOperation : Obligations.StepRefusesAWordOfNoOperation := by
  intro s w rest why hin hdec
  rw [step_of_decode_error (by rwa [fetchWord_pending hin]), onReject_pending hin]

/-- Settles O10: the placed word is the first pending one (`step_of_pending`), and the pending words behind it are those the
state had. -/
theorem placedTableWordIsTheNextOperation : Obligations.PlacedTableWordIsTheNextOperation :=
  fun _ _ => ⟨step_of_pending rfl rfl, step_of_pending rfl rfl, step_of_pending rfl rfl, step_of_pending rfl rfl⟩

end Sys2Proof.Machine

/-! PROOFS for 41_mididecoder.md: the message table (R131), each case of BYTE with its exact next state (R132 to R145), whole
messages (R146, R147), and that a byte reaches nothing but the decoder, the queue and two error conditions (R148, R149). -/

namespace Sys2Proof.Machine

/-! ## The message table (R131) -/

/-- Settles O20: a status byte's type is its bits 6 to 4, so the table is a fact about 256 bytes. -/
theorem messageTableOfStatusBytes : Obligations.MessageTableOfStatusBytes := by
  unfold Obligations.MessageTableOfStatusBytes
  decide

/-- NoteOff, NoteOn and ControlChange have two data bytes and are events. -/
theorem event_kinds : ∀ kind ∈ [0x8#4, 0x9#4, 0xB#4], ∀ chan : BitVec 4,
    dlen (kind ++ chan) = 2 ∧ emits (kind ++ chan) = true := by
  decide

/-- Polyphonic pressure and pitch bend have two data bytes and are no events. -/
theorem silent_kinds : ∀ kind ∈ [0xA#4, 0xE#4], ∀ chan : BitVec 4,
    dlen (kind ++ chan) = 2 ∧ emits (kind ++ chan) = false := by
  decide

/-- Program change and channel pressure have one data byte. -/
theorem one_byte_kinds : ∀ kind ∈ [0xC#4, 0xD#4], ∀ chan : BitVec 4, dlen (kind ++ chan) = 1 := by
  decide

section

variable {s : State}

/-! ## What the two conditions of a byte record (R240) -/

/-- The model's saturating counter is the one the claims are written with. -/
theorem satinc_eq_oneMore (n : U16) : satinc n = oneMore n := by
  apply BitVec.eq_of_toNat_eq
  rw [satinc_toNat, oneMore, BitVec.toNat_ofNat, Nat.mod_eq_of_lt (by omega)]

theorem raise_framingError_eq (s : State) :
    raise .framingError s = { s with err := s.err ||| 0x0002#16, ferrCnt := oneMore s.ferrCnt } := by
  rw [← satinc_eq_oneMore]
  rfl

theorem raise_queueOverflow_eq (s : State) :
    raise .queueOverflow s = { s with err := s.err ||| 0x0004#16, qovfCnt := oneMore s.qovfCnt } := by
  rw [← satinc_eq_oneMore]
  rfl

/-- A byte that cuts a message is a framing error (R132, R145). -/
theorem raiseIf_cut_eq (s : State) : raiseIf (decide (s.mdSt ≠ .idle)) .framingError s = { s with
    err := if s.mdSt = .idle then s.err else s.err ||| 0x0002#16
    ferrCnt := if s.mdSt = .idle then s.ferrCnt else oneMore s.ferrCnt } := by
  by_cases hidle : s.mdSt = .idle
  · rw [if_pos hidle, if_pos hidle, decide_eq_false (not_not.mpr hidle), raiseIf_false]
  · rw [if_neg hidle, if_neg hidle, decide_eq_true hidle, raiseIf_true, raise_framingError_eq]

/-! ## Status and system bytes -/

/-- The seven channel-voice status operations, each with the high half of its status byte (R93). -/
def statusOps (chan : BitVec 4) : List (Instr × BitVec 4) :=
  [(.mdNoteOff chan, 0x8#4), (.mdNoteOn chan, 0x9#4), (.mdPolyAt chan, 0xA#4), (.mdCc chan, 0xB#4),
    (.mdProg chan, 0xC#4), (.mdChanAt chan, 0xD#4), (.mdPBend chan, 0xE#4)]

/-- The seven classes share one rule (R132). -/
theorem exec_statusOps {chan : BitVec 4} {p : Instr × BitVec 4} (hp : p ∈ statusOps chan) (s : State) :
    exec p.1 s = .next (channelStatus (p.2 ++ chan) s) := by
  simp only [statusOps, List.mem_cons, List.not_mem_nil, or_false] at hp
  rcases hp with rfl | rfl | rfl | rfl | rfl | rfl | rfl <;> rfl

theorem channelStatus_eq (b : Byte) (s : State) : channelStatus b s = { s with
    mdSt := .awaitingData1, rsv := true, rs := b
    err := if s.mdSt = .idle then s.err else s.err ||| 0x0002#16
    ferrCnt := if s.mdSt = .idle then s.ferrCnt else oneMore s.ferrCnt } := by
  rw [channelStatus, raiseIf_cut_eq]
  rfl

/-- In Idle a status byte cuts nothing. -/
theorem channelStatus_of_idle (b : Byte) (hidle : s.mdSt = .idle) :
    channelStatus b s = { s with mdSt := .awaitingData1, rsv := true, rs := b } := by
  rw [channelStatus_eq, if_pos hidle, if_pos hidle]

theorem systemByte_eq (s : State) : systemByte s = { s with
    mdSt := .idle, rsv := false
    err := if s.mdSt = .idle then s.err else s.err ||| 0x0002#16
    ferrCnt := if s.mdSt = .idle then s.ferrCnt else oneMore s.ferrCnt } := by
  rw [systemByte, raiseIf_cut_eq]
  rfl

/-- Settles O21: the seven operations share one rule, `channelStatus_eq`. -/
theorem channelVoiceStatusStartsAMessage : Obligations.ChannelVoiceStatusStartsAMessage := by
  intro s chan p hp
  rw [exec_statusOps hp, channelStatus_eq]

/-- Settles O26: a system byte's low half is not read. -/
theorem systemByteForgetsTheMessage : Obligations.SystemByteForgetsTheMessage :=
  fun s _ => congrArg Host.Outcome.next (systemByte_eq s)

/-! ## Data bytes, case by case -/

/-- A data byte is the first of its message: a status byte came just before it, or running status stands in for one (R140). -/
def AwaitsFirst (s : State) : Prop := s.mdSt = .awaitingData1 ∨ (s.mdSt = .idle ∧ s.rsv = true)

theorem dataByte_first (v : BitVec 7) (h : AwaitsFirst s) : dataByte v s = firstDataByte v s := by
  rcases h with hst | ⟨hst, hrsv⟩
  · simp only [dataByte, hst]
  · simp only [dataByte, hst, if_pos hrsv]

theorem dataByte_second (v : BitVec 7) (h : s.mdSt = .awaitingData2) : dataByte v s = secondDataByte v s := by
  simp only [dataByte, h]

theorem dataByte_stray (v : BitVec 7) (hst : s.mdSt = .idle) (hrsv : s.rsv = false) :
    dataByte v s = raise .framingError s := by
  simp [dataByte, hst, hrsv]

theorem firstDataByte_of_two (v : BitVec 7) (h : dlen s.rs = 2) :
    firstDataByte v s = { s with d1 := v, mdSt := .awaitingData2 } :=
  if_pos h

theorem firstDataByte_of_not_two (v : BitVec 7) (h : dlen s.rs ≠ 2) : firstDataByte v s = { s with mdSt := .idle } :=
  if_neg h

theorem secondDataByte_of_emits (v : BitVec 7) (h : emits s.rs = true) :
    secondDataByte v s = (mqPush (eventWord s.rs s.d1 v) s).setMdSt .idle := by
  rw [secondDataByte, if_pos h]

theorem secondDataByte_of_silent (v : BitVec 7) (h : emits s.rs = false) : secondDataByte v s = { s with mdSt := .idle } := by
  rw [secondDataByte, h]
  rfl

/-- The cases of a data byte, with what decides each (R140 to R144). -/
theorem dataByte_cases (v : BitVec 7) (s : State) :
    (s.mdSt = .awaitingData2 ∧ emits s.rs = true ∧ dataByte v s = (mqPush (eventWord s.rs s.d1 v) s).setMdSt .idle) ∨
      dataByte v s = { s with d1 := v, mdSt := .awaitingData2 } ∨ dataByte v s = { s with mdSt := .idle } ∨
      dataByte v s = raise .framingError s := by
  have hfirst : firstDataByte v s = { s with d1 := v, mdSt := .awaitingData2 } ∨
      firstDataByte v s = { s with mdSt := .idle } := by
    by_cases htwo : dlen s.rs = 2
    · exact .inl (firstDataByte_of_two v htwo)
    · exact .inr (firstDataByte_of_not_two v htwo)
  cases hst : s.mdSt with
  | awaitingData2 =>
    rw [dataByte_second v hst]
    cases hemits : emits s.rs with
    | true => exact .inl ⟨rfl, rfl, secondDataByte_of_emits v hemits⟩
    | false => exact .inr (.inr (.inl (secondDataByte_of_silent v hemits)))
  | awaitingData1 =>
    rw [dataByte_first v (.inl hst)]
    exact .inr (hfirst.imp_right .inl)
  | idle =>
    by_cases hrsv : s.rsv = true
    · rw [dataByte_first v (.inr ⟨hst, hrsv⟩)]
      exact .inr (hfirst.imp_right .inl)
    · exact .inr (.inr (.inr (dataByte_stray v hst (Bool.eq_false_of_not_eq_true hrsv))))

/-- Settles O22: a first data byte (`dataByte_first`) of a message that has two. -/
theorem firstDataByteIsKept : Obligations.FirstDataByteIsKept := by
  intro s v hfirst htwo
  rw [exec, execMdData, dataByte_first v hfirst, firstDataByte_of_two v htwo]

/-- Settles O23: a first data byte (`dataByte_first`) of a message that has no second. -/
theorem onlyDataByteCompletesSilently : Obligations.OnlyDataByteCompletesSilently := by
  intro s v hfirst hone
  rw [exec, execMdData, dataByte_first v hfirst, firstDataByte_of_not_two v (by omega)]

/-- Settles O25: the one case of a data byte that belongs to no message (`dataByte_stray`). -/
theorem strayDataByteIsAFramingError : Obligations.StrayDataByteIsAFramingError := by
  intro s v hst hrsv
  rw [exec, execMdData, dataByte_stray v hst hrsv, raise_framingError_eq]

/-! ## The push of a completed message (R143, R191) -/

/-- On a full queue the pushed event takes the place that the oldest one leaves. -/
theorem queued_mqPush_full (ev : EventWord) (h : s.Inv) (hfull : s.mqCnt = s.cfg.midiqCap) :
    queued (mqPush ev s) = (queued s).tail ++ [ev] := by
  rw [← mqPush_mqMakeRoom ev h.cnt_le, queued_mqPush_room ev h.mqMakeRoom.mq_wf (mqMakeRoom_cnt_lt h.cnt_le),
    queued_mqMakeRoom_full hfull]

/-- A push writes the slot of the newest event of the queue it leaves, and no other. -/
theorem mqPush_read_of_ne (ev : EventWord) (hwf : s.mq.wf = true) {a : Nat}
    (ha : a ≠ ((mqPush ev s).mqHead + ((mqPush ev s).mqCnt - 1)) % s.cfg.midiqCap) :
    (mqPush ev s).mq.read a = s.mq.read a := by
  by_cases hfull : s.mqCnt = s.cfg.midiqCap
  · rw [mqPush_full ev hfull] at ha ⊢
    exact (Memory.read_write hwf _ _ _).trans (if_neg ha)
  · rw [mqPush_room ev hfull] at ha ⊢
    exact (Memory.read_write hwf _ _ _).trans (if_neg ha)

/-- A push changes the queue and the record of its overflow only. -/
theorem mqPush_frame (ev : EventWord) (s : State) :
    mqPush ev s = { s with
      mq := (mqPush ev s).mq, mqHead := (mqPush ev s).mqHead, mqCnt := (mqPush ev s).mqCnt
      err := (mqPush ev s).err, qovfCnt := (mqPush ev s).qovfCnt } := by
  by_cases hfull : s.mqCnt = s.cfg.midiqCap
  · rw [mqPush_full ev hfull]
    rfl
  · rw [mqPush_room ev hfull]

/-- Settles O24: a message that emits is one push, whose two cases are the queue with room and the full one. -/
theorem secondDataByteQueuesTheEvent : Obligations.SecondDataByteQueuesTheEvent := by
  intro s v h hst
  refine ⟨_, rfl, ?_⟩
  rw [dataByte_second v hst]
  cases hemits : emits s.rs with
  | false =>
    rw [secondDataByte_of_silent v hemits]
    exact ⟨rfl, fun _ => rfl, nofun⟩
  | true =>
    rw [secondDataByte_of_emits v hemits]
    refine ⟨congrArg (State.setMdSt · .idle) (mqPush_frame _ s), nofun, fun _ =>
      ⟨fun a ha => mqPush_read_of_ne _ h.mq_wf ha, fun hroom => ⟨queued_mqPush_room _ h.mq_wf hroom, ?_⟩,
        fun hfull => ⟨queued_mqPush_full _ h hfull, ?_⟩⟩⟩
    · rw [mqPush_room _ hroom.ne]
      exact ⟨rfl, rfl, rfl, rfl⟩
    · have hcnt : s.mqCnt - 1 + 1 = s.mqCnt := by
        have := s.cfg.midiqCap_pos
        omega
      rw [mqPush_full _ hfull, raise_queueOverflow_eq]
      exact ⟨rfl, hcnt, rfl, rfl⟩

/-! ## Whole messages -/

theorem runTrace_cons {i : Instr} {rest : List Instr} {t : State} (h : exec i s = .next t) :
    runTrace (i :: rest) s = runTrace rest t := by
  simp only [runTrace, h]

/-- A two-data-byte message, or one more under running status, ends as its second data byte does. -/
theorem runTrace_two_data (a b : BitVec 7) (hfirst : AwaitsFirst s) (htwo : dlen s.rs = 2) :
    runTrace [.mdData a, .mdData b] s = .next (secondDataByte b { s with d1 := a, mdSt := .awaitingData2 }) := by
  rw [runTrace_cons (firstDataByteIsKept s a hfirst htwo), runTrace_cons rfl, dataByte_second b rfl]
  rfl

/-- The two data bytes of an event, with room in the queue: the event comes behind those queued, and the decoder is Idle. -/
theorem runTrace_two_data_event (a b : BitVec 7) (hfirst : AwaitsFirst s) (htwo : dlen s.rs = 2)
    (hemits : emits s.rs = true) (hwf : s.mq.wf = true) (hroom : s.mqCnt < s.cfg.midiqCap) :
    ∃ m : Memory 24, m.wf = true ∧
      runTrace [.mdData a, .mdData b] s = .next { s with d1 := a, mdSt := .idle, mq := m, mqCnt := s.mqCnt + 1 } ∧
      queued { s with mq := m, mqCnt := s.mqCnt + 1 } = queued s ++ [eventWord s.rs a b] := by
  have hqueued := queued_mqPush_room (eventWord s.rs a b) hwf hroom
  rw [mqPush_room _ hroom.ne] at hqueued
  refine ⟨_, Memory.write_wf hwf _ _, ?_, hqueued⟩
  rw [runTrace_two_data a b hfirst htwo, secondDataByte_of_emits b, mqPush_room]
  · rfl
  · exact hroom.ne
  · exact hemits

/-- The two data bytes of a message that is no event leave only the first of them. -/
theorem runTrace_two_data_silent (a b : BitVec 7) (hfirst : AwaitsFirst s) (htwo : dlen s.rs = 2)
    (hsilent : emits s.rs = false) :
    runTrace [.mdData a, .mdData b] s = .next { s with d1 := a, mdSt := .idle } := by
  rw [runTrace_two_data a b hfirst htwo, secondDataByte_of_silent b]
  exact hsilent

/-- In Idle a status byte begins its message, and what follows goes on from there. -/
theorem runTrace_status {chan : BitVec 4} {p : Instr × BitVec 4} (hp : p ∈ statusOps chan) (hidle : s.mdSt = .idle)
    (rest : List Instr) :
    runTrace (p.1 :: rest) s = runTrace rest { s with mdSt := .awaitingData1, rsv := true, rs := p.2 ++ chan } :=
  runTrace_cons ((exec_statusOps hp s).trans (congrArg _ (channelStatus_of_idle _ hidle)))

end

/-- Settles O27: after its status byte a message is two data bytes (`runTrace_two_data_event`), and so is the next one, which
starts in Idle under running status. -/
theorem completeMessageAndRunningStatusGiveTheirEvents : Obligations.CompleteMessageAndRunningStatusGiveTheirEvents := by
  intro s chan a b a' b' h hidle hroom p hp
  have hkind : p ∈ statusOps chan ∧ p.2 ∈ [0x8#4, 0x9#4, 0xB#4] := by
    revert p
    simp [statusOps]
  obtain ⟨hstatus, hkind⟩ := hkind
  obtain ⟨htwo, hemits⟩ := event_kinds p.2 hkind chan
  obtain ⟨m, hm, hrun, hqueued⟩ := runTrace_two_data_event
    (s := { s with mdSt := .awaitingData1, rsv := true, rs := p.2 ++ chan }) a b (.inl rfl) htwo hemits h.mq_wf
    (show s.mqCnt < s.cfg.midiqCap by omega)
  obtain ⟨m', -, hrun', hqueued'⟩ := runTrace_two_data_event
    (s := { s with mdSt := .idle, rsv := true, rs := p.2 ++ chan, d1 := a, mq := m, mqCnt := s.mqCnt + 1 }) a' b'
    (.inr ⟨rfl, rfl⟩) htwo hemits hm (show s.mqCnt + 1 < s.cfg.midiqCap by omega)
  refine ⟨_, _, (runTrace_status hstatus hidle _).trans hrun, hqueued, ?_, hrun', hqueued', ?_⟩
  · rw [hidle]
  · rw [hidle]

/-- Settles O28: after its status byte a message that is no event leaves only what its bytes put into the decoder. -/
theorem messagesWithoutAVariantAreSilent : Obligations.MessagesWithoutAVariantAreSilent := by
  intro s chan a b hidle
  have htwo : ∀ p ∈ statusOps chan, p.2 ∈ [0xA#4, 0xE#4] →
      runTrace [p.1, .mdData a, .mdData b] s = .next { s with rsv := true, rs := p.2 ++ chan, d1 := a } := by
    intro p hp hkind
    obtain ⟨hlen, hsilent⟩ := silent_kinds p.2 hkind chan
    rw [runTrace_status hp hidle, runTrace_two_data_silent a b, hidle]
    · exact .inl rfl
    · exact hlen
    · exact hsilent
  have hone : ∀ p ∈ statusOps chan, p.2 ∈ [0xC#4, 0xD#4] →
      runTrace [p.1, .mdData a] s = .next { s with rsv := true, rs := p.2 ++ chan } := by
    intro p hp hkind
    rw [runTrace_status hp hidle, runTrace_cons (onlyDataByteCompletesSilently _ a (.inl rfl) ?_), hidle]
    · rfl
    · exact one_byte_kinds p.2 hkind chan
  exact ⟨htwo (.mdPolyAt chan, 0xA#4) (by simp [statusOps]) (by simp),
    htwo (.mdPBend chan, 0xE#4) (by simp [statusOps]) (by simp),
    hone (.mdProg chan, 0xC#4) (by simp [statusOps]) (by simp),
    hone (.mdChanAt chan, 0xD#4) (by simp [statusOps]) (by simp)⟩

/-! ## What a byte queues and what it reaches (R147 to R149) -/

/-- Settles O29: of the cases of a byte only the push touches the queue, with room or on a full queue. -/
theorem noEventFromAPartialMessage : Obligations.NoEventFromAPartialMessage := by
  intro s t i h hbyte hexec hne
  cases exec_effect hexec with
  | data v =>
    rcases dataByte_cases v s with ⟨hst, hemits, heq⟩ | heq | heq | heq
    · refine ⟨v, rfl, hst, hemits, ?_⟩
      rw [heq]
      rcases h.cnt_le.lt_or_eq with hroom | hfull
      · exact .inl (queued_mqPush_room _ h.mq_wf hroom)
      · exact .inr (queued_mqPush_full _ h hfull)
    all_goals exact absurd (congrArg queued heq) hne
  | noteOff | noteOn | polyAt | cc | prog | chanAt | pBend => exact absurd (congrArg queued (channelStatus_eq _ s)) hne
  | sys => exact absurd (congrArg queued (systemByte_eq s)) hne
  | _ => cases hbyte

/-- The state with the registers that a byte can write taken from another state. -/
def State.withByteFields (s m : State) : State :=
  { s with
    mdSt := m.mdSt, rsv := m.rsv, rs := m.rs, d1 := m.d1, mq := m.mq, mqHead := m.mqHead, mqCnt := m.mqCnt
    err := m.err, ferrCnt := m.ferrCnt, qovfCnt := m.qovfCnt }

theorem exec_byte_next {i : Instr} (hbyte : byteOps i = true) (s : State) : ∃ t, exec i s = .next t := by
  cases i with
  | mdData | mdNoteOff | mdNoteOn | mdPolyAt | mdCc | mdProg | mdChanAt | mdPBend | mdSys => exact ⟨_, rfl⟩
  | _ => cases hbyte

/-- R148: a byte writes registers of the decoder, the queue and the two error conditions only. -/
theorem exec_byte_frame {i : Instr} {s t : State} (hbyte : byteOps i = true) (hexec : exec i s = .next t) :
    t = s.withByteFields t := by
  cases exec_effect hexec with
  | data v =>
    rcases dataByte_cases v s with ⟨-, -, heq⟩ | heq | heq | heq
    · rw [heq, mqPush_frame]; rfl
    · rw [heq]; rfl
    · rw [heq]; rfl
    · rw [heq]; rfl
  | noteOff | noteOn | polyAt | cc | prog | chanAt | pBend => rw [channelStatus_eq]; rfl
  | sys => rw [systemByte_eq]; rfl
  | _ => cases hbyte

/-- A condition whose flag is outside a mask leaves the flags under it alone. -/
theorem raiseIf_err_and {c : Condition} {mask : U16} (hc : c.flag &&& mask = 0#16) (b : Bool) (s : State) :
    (raiseIf b c s).err &&& mask = s.err &&& mask := by
  cases b with
  | false => rfl
  | true => rw [raiseIf_true, raise_err, BitVec.and_or_distrib_right, hc, BitVec.or_zero]

/-- R148: a byte sets no flag but FERR and QOVF. -/
theorem exec_byte_flags {i : Instr} {s t : State} (hbyte : byteOps i = true) (hexec : exec i s = .next t) :
    t.err &&& 0xFFF9#16 = s.err &&& 0xFFF9#16 := by
  have hframing : ∀ b, (raiseIf b .framingError s).err &&& 0xFFF9#16 = s.err &&& 0xFFF9#16 :=
    fun b => raiseIf_err_and (by decide) b s
  have hstatus : ∀ b, (channelStatus b s).err &&& 0xFFF9#16 = s.err &&& 0xFFF9#16 :=
    fun _ => hframing (decide (s.mdSt ≠ .idle))
  cases exec_effect hexec with
  | data v =>
    rcases dataByte_cases v s with ⟨-, -, heq⟩ | heq | heq | heq
    · have herr := congrArg Prod.fst (mqPush_errors (s := s) (eventWord s.rs s.d1 v))
      rw [heq]
      exact (congrArg (· &&& 0xFFF9#16) herr).trans (raiseIf_err_and (by decide) _ s)
    · rw [heq]
    · rw [heq]
    · rw [heq]
      exact hframing true
  | noteOff | noteOn | polyAt | cc | prog | chanAt | pBend => exact hstatus _
  | sys => exact hframing (decide (s.mdSt ≠ .idle))
  | _ => cases hbyte

/-- Settles O30: a byte always answers a next state, within its frame and its flags. -/
theorem aBytesReachIsTheDecoderTheQueueAndTwoFlags : Obligations.ABytesReachIsTheDecoderTheQueueAndTwoFlags := by
  intro s i hbyte
  obtain ⟨t, hexec⟩ := exec_byte_next hbyte s
  exact ⟨t, hexec, exec_byte_frame hbyte hexec, exec_byte_flags hbyte hexec⟩

/-! ## Bytes and the operations that commute with them (R149) -/

/-- The state with the registers that no byte reads or writes taken from another state, and more flags of `ERR` set. -/
def State.withOtherFields (s m : State) (flags : U16) : State :=
  { s with
    wp := m.wp, dofs := m.dofs, gain := m.gain, buf := m.buf, blk := m.blk, own := m.own, cur := m.cur, schSt := m.schSt
    blkout := m.blkout, resp := m.resp, err := s.err ||| flags }

section

variable (s m : State) (flags : U16)

/-- Other registers, and no more flags. -/
theorem withOtherFields_zero : s.withOtherFields m 0 = { s with
    wp := m.wp, dofs := m.dofs, gain := m.gain, buf := m.buf, blk := m.blk, own := m.own, cur := m.cur, schSt := m.schSt
    blkout := m.blkout, resp := m.resp } := by
  simp [State.withOtherFields]

theorem raise_withOtherFields (c : Condition) :
    raise c (s.withOtherFields m flags) = (raise c s).withOtherFields m flags := by
  have herr : s.err ||| flags ||| c.flag = s.err ||| c.flag ||| flags := by
    rw [BitVec.or_assoc, BitVec.or_comm flags, ← BitVec.or_assoc]
  exact congrArg (fun e => { raise c (s.withOtherFields m flags) with err := e }) herr

theorem raiseIf_withOtherFields (b : Bool) (c : Condition) :
    raiseIf b c (s.withOtherFields m flags) = (raiseIf b c s).withOtherFields m flags := by
  cases b with
  | false => rfl
  | true => exact raise_withOtherFields s m flags c

theorem mqPush_withOtherFields (ev : EventWord) :
    mqPush ev (s.withOtherFields m flags) = (mqPush ev s).withOtherFields m flags := by
  by_cases hfull : s.mqCnt = s.cfg.midiqCap
  · rw [mqPush_full ev hfull, mqPush_full ev (s := s.withOtherFields m flags) hfull, raise_withOtherFields]
    rfl
  · rw [mqPush_room ev hfull, mqPush_room ev (s := s.withOtherFields m flags) hfull]
    rfl

theorem channelStatus_withOtherFields (b : Byte) :
    channelStatus b (s.withOtherFields m flags) = (channelStatus b s).withOtherFields m flags := by
  rw [channelStatus, raiseIf_withOtherFields]
  rfl

theorem systemByte_withOtherFields : systemByte (s.withOtherFields m flags) = (systemByte s).withOtherFields m flags := by
  rw [systemByte, raiseIf_withOtherFields]
  rfl

theorem firstDataByte_withOtherFields (v : BitVec 7) :
    firstDataByte v (s.withOtherFields m flags) = (firstDataByte v s).withOtherFields m flags := by
  by_cases htwo : dlen s.rs = 2
  · rw [firstDataByte_of_two v htwo, firstDataByte_of_two (s := s.withOtherFields m flags) v htwo]
    rfl
  · rw [firstDataByte_of_not_two v htwo, firstDataByte_of_not_two (s := s.withOtherFields m flags) v htwo]
    rfl

theorem secondDataByte_withOtherFields (v : BitVec 7) :
    secondDataByte v (s.withOtherFields m flags) = (secondDataByte v s).withOtherFields m flags := by
  cases hemits : emits s.rs with
  | true =>
    rw [secondDataByte_of_emits v hemits, secondDataByte_of_emits (s := s.withOtherFields m flags) v hemits]
    exact congrArg (State.setMdSt · .idle) (mqPush_withOtherFields s m flags _)
  | false =>
    rw [secondDataByte_of_silent v hemits, secondDataByte_of_silent (s := s.withOtherFields m flags) v hemits]
    rfl

theorem dataByte_withOtherFields (v : BitVec 7) :
    dataByte v (s.withOtherFields m flags) = (dataByte v s).withOtherFields m flags := by
  have hst : (s.withOtherFields m flags).mdSt = s.mdSt := rfl
  cases hs : s.mdSt with
  | awaitingData2 =>
    rw [dataByte_second v hs, dataByte_second v (hst.trans hs), secondDataByte_withOtherFields]
  | awaitingData1 =>
    rw [dataByte_first v (.inl hs), dataByte_first v (.inl (hst.trans hs)), firstDataByte_withOtherFields]
  | idle =>
    by_cases hrsv : s.rsv = true
    · rw [dataByte_first v (.inr ⟨hs, hrsv⟩), dataByte_first v (.inr ⟨hst.trans hs, hrsv⟩), firstDataByte_withOtherFields]
    · have hrsv := Bool.eq_false_of_not_eq_true hrsv
      rw [dataByte_stray v hs hrsv, dataByte_stray v (hst.trans hs) hrsv, raise_withOtherFields]

end

/-- A byte does the same whatever the other agents' registers hold, and leaves them (R72, R148). -/
theorem exec_byte_withOtherFields {i : Instr} {s t : State} (hbyte : byteOps i = true) (hexec : exec i s = .next t)
    (m : State) (flags : U16) : exec i (s.withOtherFields m flags) = .next (t.withOtherFields m flags) := by
  cases exec_effect hexec with
  | data v => exact congrArg _ (dataByte_withOtherFields s m flags v)
  | noteOff | noteOn | polyAt | cc | prog | chanAt | pBend => exact congrArg _ (channelStatus_withOtherFields s m flags _)
  | sys => exact congrArg _ (systemByte_withOtherFields s m flags)
  | _ => cases hbyte

/-- The operations of the renderer, the scheduler's two internal steps, the sink, and the two commands that set the delay
line (R15). -/
def AudioOp (j : Instr) : Prop :=
  (∃ r, j = .render r) ∨ j = .delay ∨ j = .emit ∨ (∃ k, j = .release k) ∨ (∃ n, j = .setOfs n) ∨ (∃ g, j = .setGain g)

/-- Such an operation does the same whatever a byte's registers hold: it writes the same other registers and sets the same
flags, or it stops for the same reason. -/
theorem exec_withByteFields {j : Instr} (hj : AudioOp j) (s : State) :
    (∃ m flags, ∀ b, exec j (s.withByteFields b) = .next ((s.withByteFields b).withOtherFields m flags)) ∨
      (∃ o, (∀ b, exec j (s.withByteFields b) = o) ∧ ∀ t, o ≠ .next t) := by
  rcases hj with ⟨r, rfl⟩ | rfl | rfl | ⟨k, rfl⟩ | ⟨n, rfl⟩ | ⟨g, rfl⟩
  · by_cases hlen : r.length = s.cfg.B
    · by_cases hst : s.schSt = .rendering
      · refine .inl ⟨(storeBlock s.cur r s).setSchSt .delaying, 0, fun b => ?_⟩
        rw [withOtherFields_zero]
        exact (if_neg (not_not.mpr hlen)).trans (if_pos hst)
      · refine .inl ⟨s, 0, fun b => ?_⟩
        rw [withOtherFields_zero]
        exact (if_neg (not_not.mpr hlen)).trans (if_neg hst)
    · exact .inr ⟨_, fun _ => if_pos hlen, nofun⟩
  · by_cases hst : s.schSt = .delaying
    · let out := dlProcess (samplesOf s s.cur) s
      refine .inl ⟨(storeBlock s.cur out.1 out.2).setSchSt .emitting, 0, fun b => ?_⟩
      rw [withOtherFields_zero]
      exact if_pos hst
    · exact .inr ⟨_, fun _ => if_neg hst, nofun⟩
  · by_cases hst : s.schSt = .emitting
    · refine .inl ⟨(((s.putBlkout ⟨s.cur, samplesOf s s.cur⟩).setOwner s.cur .sink).setCur
        (emod ((s.cur : Int) + 1) s.cfg.nbuf)).setSchSt .idle, 0, fun b => ?_⟩
      rw [withOtherFields_zero]
      exact if_pos hst
    · exact .inr ⟨_, fun _ => if_neg hst, nofun⟩
  · by_cases hk : k < s.cfg.nbuf ∧ ownerOf s k = .sink
    · refine .inl ⟨s.setOwner k .sched, 0, fun b => ?_⟩
      rw [withOtherFields_zero]
      exact if_pos hk
    · refine .inl ⟨s, 0, fun b => ?_⟩
      rw [withOtherFields_zero]
      exact if_neg hk
  · by_cases hn : s.cfg.Q < n.toNat
    · exact .inl ⟨respond true s.dofs s, Condition.offsetOutOfRange.flag, fun _ => if_pos hn⟩
    · let held := BitVec.ofInt 16 (clamp n.toNat 1 ((s.cfg.Q : Int) - 1))
      refine .inl ⟨respond false held (s.setDofs held), 0, fun b => ?_⟩
      rw [withOtherFields_zero]
      exact if_neg hn
  · let held := BitVec.ofInt 16 (clamp g.toNat 0 s.cfg.gainMax)
    refine .inl ⟨respond false held (s.setGain held), 0, fun b => ?_⟩
    rw [withOtherFields_zero]
    rfl

/-- An operation that answers no next state ends the trace (R17). -/
theorem runTrace_cons_of_stop {i : Instr} {s : State} {o : Host.Outcome State Fault Refusal} (h : exec i s = o)
    (hstop : ∀ t, o ≠ .next t) (rest : List Instr) : runTrace (i :: rest) s = o := by
  cases o with
  | next t => exact absurd rfl (hstop t)
  | fault | refused => simp only [runTrace, h]

/-- Settles O31: a byte leaves what the other operation reads (`exec_byte_frame`), which therefore goes the same way
(`exec_withByteFields`), and what that one writes the byte neither reads nor writes (`exec_byte_withOtherFields`). -/
theorem bytesCommuteWithRenderDelayEmitReleaseSetOfsSetGain :
    Obligations.BytesCommuteWithRenderDelayEmitReleaseSetOfsSetGain := by
  intro s i j hbyte hj
  obtain ⟨t, hexec⟩ := exec_byte_next hbyte s
  have hframe := exec_byte_frame hbyte hexec
  rw [runTrace_cons hexec]
  rcases exec_withByteFields hj s with ⟨m, flags, hnext⟩ | ⟨o, ho, hstop⟩
  · have hs : exec j s = .next (s.withOtherFields m flags) := hnext s
    have ht : exec j t = .next (t.withOtherFields m flags) := by
      rw [hframe]
      exact hnext t
    rw [runTrace_cons ht, runTrace_cons hs, runTrace_cons (exec_byte_withOtherFields hbyte hexec m flags)]
  · have hs : exec j s = o := ho s
    have ht : exec j t = o := by
      rw [hframe]
      exact ho t
    rw [runTrace_cons_of_stop ht hstop, runTrace_cons_of_stop hs hstop]

end Sys2Proof.Machine

/-! PROOFS for 42_delayline.md: the laws of the sample arithmetic (R161), one block through the delay line (R162 to R165,
R205), the pass-through law (R167), the decay law (R168), and the two commands that set the effect (R171, R173). -/

namespace Sys2Proof.Machine

/-! ## The sample arithmetic (R161) -/

/-- The scaling works on magnitudes: truncation drops the same fraction on both sides of zero. -/
theorem natAbs_mulg (g : Nat) (x : Int) : (mulg g x).natAbs = g * x.natAbs / 32768 := by
  rw [mulg, tdiv, Int.natAbs_tdiv, Int.natAbs_mul, Int.natAbs_natCast, Int.natAbs_natCast]
  rfl

/-- A gain below 1 takes at least 1 off every non-zero magnitude. -/
theorem natAbs_mulg_le {g : Nat} (hg : g < 32768) (x : Int) : (mulg g x).natAbs ≤ x.natAbs - 1 := by
  rw [natAbs_mulg]
  rcases Nat.eq_zero_or_pos x.natAbs with hx | hx
  · simp [hx]
  · exact Nat.le_sub_one_of_lt (Nat.div_lt_of_lt_mul (Nat.mul_lt_mul_of_pos_right hg hx))

@[simp] theorem mulg_zero (g : Nat) : mulg g 0 = 0 := by simp [mulg, tdiv]

@[simp] theorem zero_mulg (x : Int) : mulg 0 x = 0 := by simp [mulg, tdiv]

theorem mulg_neg (g : Nat) (x : Int) : mulg g (-x) = -mulg g x := by
  rw [mulg, mulg, tdiv, tdiv, mul_neg, Int.neg_tdiv]

theorem mulg_of_nonneg (g : Nat) {x : Int} (hx : 0 ≤ x) : mulg g x = (g : Int) * x / 32768 :=
  Int.tdiv_eq_ediv_of_nonneg (mul_nonneg (Int.natCast_nonneg g) hx)

/-- Below zero the quotient is that of the opposite, so it is rounded toward zero too. -/
theorem mulg_of_nonpos (g : Nat) {x : Int} (hx : x ≤ 0) : mulg g x = -((g : Int) * -x / 32768) := by
  rw [← mulg_of_nonneg g (neg_nonneg.mpr hx), mulg_neg, neg_neg]

theorem abs_gain_mul_le (g : Nat) {x : Int} (hx : |x| ≤ 32768) : |(g : Int) * x| ≤ g * 32768 := by
  rw [abs_mul, Nat.abs_cast]
  exact mul_le_mul_of_nonneg_left hx (Int.natCast_nonneg g)

theorem sat16_of_gt {v : Int} (h : 32767 < v) : sat16 v = 32767 := by
  unfold sat16 clamp
  split_ifs <;> omega

theorem sat16_of_lt {v : Int} (h : v < -32768) : sat16 v = -32768 := if_pos h

theorem dvd_sub_emod (a : Int) {q : Nat} (hq : 0 < q) : (q : Int) ∣ a - emod a q := by
  rw [emod, Int.toNat_of_nonneg (Int.emod_nonneg a (by omega))]
  exact Int.dvd_self_sub_emod

/-- Settles O40: the product is bounded by the factors' magnitudes, and `natAbs_mulg_le` gives the three bounds on the
scaling. -/
theorem gainArithmeticLaws : Obligations.GainArithmeticLaws := by
  refine ⟨fun g x hg hlo hhi => ?_,
    fun v => ⟨sat16_of_gt, sat16_of_lt, fun hlo hhi => sat16_of_mem ⟨hlo, hhi⟩⟩,
    fun a q hq => ⟨emod_lt a hq, dvd_sub_emod a hq⟩, satinc_toNat⟩
  have hprod := abs_gain_mul_le g (abs_le.mpr ⟨hlo, by omega⟩ : |x| ≤ 32768)
  obtain ⟨hprodlo, hprodhi⟩ := abs_le.mp hprod
  have hscale := natAbs_mulg_le hg x
  refine ⟨by omega, by omega, fun _ => by omega, mulg_of_nonneg g, mulg_of_nonpos g, mulg_zero g, zero_mulg x,
    mulg_neg g x, ?_, fun _ => ?_, fun z _ _ => ⟨by omega, by omega⟩⟩
  all_goals
    rw [Int.abs_eq_natAbs, Int.abs_eq_natAbs]
    omega

/-! ## SETOFS and SETGAIN (R171, R173) -/

/-- Settles O49: an offset within the capacity is held as `heldOffset_toNat` says; above it one flag is set (R244). -/
theorem setOfsClampsOrRefuses : Obligations.SetOfsClampsOrRefuses := by
  refine fun s n => ⟨fun hn => ?_, fun hn => if_pos hn⟩
  rw [← heldOffset_toNat, BitVec.ofNat_toNat, BitVec.setWidth_eq]
  exact if_neg (Nat.not_lt.mpr hn)

/-- Settles O50: the gain held is `heldGain_toNat`'s. -/
theorem setGainClamps : Obligations.SetGainClamps := by
  intro s g
  rw [← heldGain_toNat, BitVec.ofNat_toNat, BitVec.setWidth_eq]
  rfl

/-! ## One block through the delay line (R162 to R165) -/

theorem sat16_eq_max_min (v : Int) : sat16 v = max (-32768) (min 32767 v) := by
  unfold sat16 clamp
  split_ifs <;> omega

/-- Both formulas of R162 are the one sum the claims are written with. -/
theorem toInt_outSample (g : U16) (x tap : Sample) : (outSample g.toNat x tap).toInt = gainSum g x tap := by
  rw [outSample, toInt_toSample (sat16_bounds _), sat16_eq_max_min]
  rfl

theorem toInt_backSample (g : U16) (x y : Sample) : (backSample g.toNat x y).toInt = gainSum g x y :=
  toInt_outSample g x y

section

variable {q wp d g i : Nat} {xs : List Sample} {buf : Memory 16}

/-- Within `q` samples no slot is written twice. -/
theorem writeIndex_ne {j : Nat} (hij : i < j) (hj : j < i + q) : writeIndex q wp j ≠ writeIndex q wp i := by
  intro heq
  rw [writeIndex_eq, writeIndex_eq] at heq
  have hzero : j - i = 0 := slot_inj (cap := q) (head := wp + i) (by omega) (by omega) (by
    rwa [show wp + i + (j - i) = wp + j by omega, Nat.add_zero])
  omega

/-- A tap is a slot, counted forward from the write pointer. -/
theorem tapIndex_eq_writeIndex (wp i : Nat) (hd : d ≤ q) : tapIndex q wp d i = writeIndex q wp (i + (q - d)) := by
  rw [tapIndex_eq wp i hd, writeIndex_eq, Nat.add_assoc]

/-- The tap `d` samples later is the slot written now (R165). -/
theorem tapIndex_add (q wp d i : Nat) : tapIndex q wp d (i + d) = writeIndex q wp i := by
  rw [tapIndex, writeIndex]
  congr 1
  omega

theorem dlSample_read_same (hwf : buf.wf = true) (x : Sample) :
    Memory.read (dlSample q wp d g i x buf).2 (writeIndex q wp i) =
      backSample g x (outSample g x (buf.read (tapIndex q wp d i))) :=
  (Memory.read_write hwf _ _ _).trans (if_pos rfl)

theorem dlSample_read_of_ne (hwf : buf.wf = true) (x : Sample) {a : Nat} (ha : a ≠ writeIndex q wp i) :
    Memory.read (dlSample q wp d g i x buf).2 a = buf.read a :=
  (Memory.read_write hwf _ _ _).trans (if_neg ha)

/-- The run writes only its own samples' slots. -/
theorem dlRun_read_of_ne (hwf : buf.wf = true) {a : Nat} (ha : ∀ k < xs.length, a ≠ writeIndex q wp (i + k)) :
    (dlRun q wp d g i xs buf).2.read a = buf.read a := by
  induction xs generalizing i buf with
  | nil => rfl
  | cons x xs ih =>
    have hrest : ∀ k < xs.length, a ≠ writeIndex q wp (i + 1 + k) := fun k hk => by
      rw [show i + 1 + k = i + (k + 1) by omega]
      exact ha (k + 1) (Nat.succ_lt_succ hk)
    rw [dlRun_cons, ih (dlSample_wf _ _ _ _ _ _ hwf) hrest]
    exact dlSample_read_of_ne hwf x (ha 0 (Nat.zero_lt_succ _))

/-- The first sample's slot keeps what that sample wrote: the rest of the run writes other slots. -/
theorem dlRun_read_first (hwf : buf.wf = true) (x : Sample) (hlen : xs.length < q) :
    (dlRun q wp d g i (x :: xs) buf).2.read (writeIndex q wp i) =
      backSample g x (outSample g x (buf.read (tapIndex q wp d i))) := by
  rw [dlRun_cons, dlRun_read_of_ne (dlSample_wf _ _ _ _ _ _ hwf), dlSample_read_same hwf]
  exact fun k hk => (writeIndex_ne (by omega) (by omega)).symm

/-- Every sample of a block: the tap comes from the old buffer when it lies before the block, else from the slot as this
block left it (R165); the output and the sample written back follow R162. -/
theorem dlRun_sample (hwf : buf.wf = true) (hd : 1 ≤ d) (hdq : d < q) (hlen : xs.length ≤ q) {k : Nat}
    (hk : k < xs.length) :
    let out := dlRun q wp d g i xs buf
    let tap := (if d ≤ k then out.2 else buf).read (tapIndex q wp d (i + k))
    out.1.getD k 0 = outSample g (xs.getD k 0) tap ∧
      out.2.read (writeIndex q wp (i + k)) = backSample g (xs.getD k 0) (out.1.getD k 0) := by
  induction xs generalizing i buf k with
  | nil => exact absurd hk (Nat.not_lt_zero k)
  | cons x xs ih =>
    rw [List.length_cons] at hk hlen
    cases k with
    | zero =>
      refine ⟨?_, dlRun_read_first hwf x hlen⟩
      rw [if_neg (by omega)]
      rfl
    | succ k =>
      obtain ⟨hout, hback⟩ := ih (i := i + 1) (dlSample_wf q wp d g i x hwf) (Nat.le_of_succ_le hlen)
        (Nat.lt_of_succ_lt_succ hk)
      have hstep : i + 1 + k = i + (k + 1) := by omega
      rw [hstep] at hout hback
      refine ⟨hout.trans (congrArg (outSample g _) ?_), hback⟩
      rcases Nat.lt_trichotomy d (k + 1) with hlt | heq | hgt
      · rw [if_pos (Nat.le_of_lt_succ hlt), if_pos hlt.le]
        rfl
      · subst heq
        rw [if_neg (by omega), if_pos le_rfl, tapIndex_add, dlRun_read_first hwf x hlen]
        exact dlSample_read_same hwf x
      · rw [if_neg (by omega), if_neg (by omega), tapIndex_eq_writeIndex wp _ hdq.le]
        exact dlSample_read_of_ne hwf x (writeIndex_ne (by omega) (by omega))

end

/-! ## DELAY (R205, R206) -/

/-- What DELAY answers in Delaying. -/
def delayed (s : State) : State :=
  (storeBlock s.cur (dlProcess (samplesOf s s.cur) s).1 (dlProcess (samplesOf s s.cur) s).2).setSchSt .emitting

section

variable {s : State}

theorem exec_delay (h : s.schSt = .delaying) : exec .delay s = .next (delayed s) := if_pos h

theorem samplesOf_getD (s : State) (k : Nat) {i : Nat} (hi : i < s.cfg.B) :
    (samplesOf s k).getD i 0 = (blockOf s k).read i := by
  rw [List.getD_eq_getElem _ _ (by simpa using hi), samplesOf_getElem]

/-- A whole block stored over the current buffer is read back (R203, R206). -/
theorem samplesOf_storeBlock (h : s.Inv) {r : List Sample} (hr : r.length = s.cfg.B) :
    samplesOf (storeBlock s.cur r s) s.cur = r := by
  rw [samplesOf, storeBlock_cfg, blockOf_storeBlock_same s r (h.blk_length ▸ h.cur_lt), ← hr]
  exact Memory.readBlock_writeFrom (h.blockOf_wf s.cur) r

/-- The output replaces the input in the same block buffer (R206). -/
theorem samplesOf_delayed (h : s.Inv) : samplesOf (delayed s) s.cur = (dlProcess (samplesOf s s.cur) s).1 :=
  samplesOf_storeBlock (h.dlProcess _) (by simp [dlProcess_fst])

/-- Settles O37: `dlRun_sample` for the samples of the current block, `dlRun_read_of_ne` for the rest of the buffer. -/
theorem delayBlockFollowsTheTapEquations : Obligations.DelayBlockFollowsTheTapEquations := by
  intro s h hst
  refine ⟨delayed s, exec_delay hst, rfl, nextWp_toNat s.cfg s.wp, fun i hi => ?_, fun a ha => ?_,
    fun k hk => blockOf_storeBlock_ne _ _ hk⟩
  · obtain ⟨hout, hback⟩ := dlRun_sample (wp := s.wp.toNat) (g := s.gain.toNat) (i := 0) (xs := samplesOf s s.cur)
      h.buf_wf h.dofs_pos h.dofs_lt (by simpa using s.cfg.B_le_Q) (k := i) (by simpa using hi)
    rw [samplesOf_getD s _ hi, Nat.zero_add, tapIndex_eq _ _ h.dofs_lt.le] at hout
    rw [samplesOf_getD s _ hi, Nat.zero_add, writeIndex_eq] at hback
    dsimp only
    rw [← samplesOf_getD (delayed s) s.cur hi, samplesOf_delayed h, ← apply_ite (fun m : Memory 16 => m.read _)]
    exact ⟨hout ▸ toInt_outSample _ _ _, hback ▸ toInt_backSample _ _ _⟩
  · refine dlRun_read_of_ne h.buf_wf fun k hk => ?_
    rw [Nat.zero_add, writeIndex_eq]
    exact ha k (by simpa using hk)

/-! ## The pass-through law (R167) -/

theorem gainSum_zero (x y : Sample) : gainSum 0 x y = x.toInt := by
  have := sample_bounds x
  rw [gainSum, show (((0 : U16).toNat : Nat) : Int) = 0 from rfl, zero_mul, Int.zero_tdiv, add_zero]
  omega

/-- Settles O38: with gain 0 both sums of O37 are the input sample. -/
theorem zeroGainIsAPurePassThrough : Obligations.ZeroGainIsAPurePassThrough := by
  intro s h hst hgain
  obtain ⟨t, hexec, -, -, hsample, -, -⟩ := delayBlockFollowsTheTapEquations s h hst
  simp only [hgain, gainSum_zero, BitVec.toInt_inj] at hsample
  have hcfg : t.cfg = s.cfg := exec_cfg hexec
  refine ⟨t, hexec, ?_, fun i hi => (hsample i hi).2⟩
  rw [samplesOf, samplesOf, hcfg]
  exact List.map_congr_left fun i hi => (hsample i (List.mem_range.mp hi)).1

end

/-! ## The decay law (R168) -/

section

variable {q wp d g i c : Nat} {buf : Memory 16}

/-- After `c` zero-input samples, with the write pointer at `wp`: the slot that sample `c + k` writes next was last
written `q` samples before it, and has lost at least 1 of its magnitude in each whole round of the buffer up to then. -/
def Decayed (q wp c : Nat) (buf : Memory 16) : Prop :=
  ∀ k < q, (buf.read (writeIndex q wp k)).toInt.natAbs ≤ 32768 - (c + k) / q

/-- With zero input the output is the scaled tap: the narrowing has nothing to do. -/
theorem toInt_outSample_zero {g : Nat} (hg : g < 32768) (tap : Sample) :
    (outSample g 0 tap).toInt = mulg g tap.toInt := by
  have htap := sample_bounds tap
  have hle := natAbs_mulg_le hg tap.toInt
  have hmem : -32768 ≤ mulg g tap.toInt ∧ mulg g tap.toInt ≤ 32767 := by omega
  rw [outSample, show (0 : Sample).toInt = 0 from rfl, zero_add, sat16_of_mem hmem, toInt_toSample hmem]

/-- With zero input the sample written back is smaller than the tap. -/
theorem natAbs_backSample_zero {g : Nat} (hg : g < 32768) (tap : Sample) :
    (backSample g 0 (outSample g 0 tap)).toInt.natAbs ≤ tap.toInt.natAbs - 1 := by
  have hback : (backSample g 0 (outSample g 0 tap)).toInt = mulg g (mulg g tap.toInt) := by
    rw [← toInt_outSample_zero hg tap]
    exact toInt_outSample_zero hg _
  rw [hback]
  have hout := natAbs_mulg_le hg tap.toInt
  have := natAbs_mulg_le hg (mulg g tap.toInt)
  omega

/-- Before the first sample the bound is that of a sample. -/
theorem Decayed.start (q wp : Nat) (buf : Memory 16) : Decayed q wp 0 buf := by
  intro k hk
  have := sample_bounds (buf.read (writeIndex q wp k))
  rw [Nat.zero_add, Nat.div_eq_of_lt hk]
  omega

theorem writeIndex_add (q wp j k : Nat) : writeIndex q (wp + j) k = writeIndex q wp (j + k) := by
  rw [writeIndex_eq, writeIndex_eq, Nat.add_assoc]

theorem writeIndex_mod (q wp k : Nat) : writeIndex q (wp % q) k = writeIndex q wp k := by
  rw [writeIndex_eq, writeIndex_eq, Nat.mod_add_mod]

theorem writeIndex_add_modulus (q wp k : Nat) : writeIndex q wp (k + q) = writeIndex q wp k := by
  rw [writeIndex_eq, writeIndex_eq, ← Nat.add_assoc, Nat.add_mod_right]

/-- The write pointer counts modulo `q`. -/
theorem Decayed.mod (h : Decayed q wp c buf) : Decayed q (wp % q) c buf := by
  intro k hk
  rw [writeIndex_mod]
  exact h k hk

/-- One zero sample: its slot takes less than the tap's magnitude, and the tap was written no earlier than that slot. -/
theorem Decayed.dlSample (h : Decayed q (wp + i) c buf) (hwf : buf.wf = true) (hd : 1 ≤ d) (hdq : d < q)
    (hg : g < 32768) : Decayed q (wp + (i + 1)) (c + 1) (dlSample q wp d g i 0 buf).2 := by
  intro k hk
  rw [writeIndex_add]
  rcases Nat.lt_or_ge (k + 1) q with hlt | hge
  · have hkept := h (k + 1) hlt
    rw [writeIndex_add, show i + (k + 1) = i + 1 + k by omega] at hkept
    rw [dlSample_read_of_ne hwf 0 (writeIndex_ne (by omega) (by omega)), show c + 1 + k = c + (k + 1) by omega]
    exact hkept
  · have htap := h (q - d) (by omega)
    rw [writeIndex_add, ← tapIndex_eq_writeIndex wp i hdq.le] at htap
    have hback := natAbs_backSample_zero hg (buf.read (tapIndex q wp d i))
    have hround : c / q ≤ (c + (q - d)) / q := Nat.div_le_div_right (Nat.le_add_right _ _)
    rw [show i + 1 + k = i + q by omega, writeIndex_add_modulus, dlSample_read_same hwf,
      show c + 1 + k = c + q by omega, Nat.add_div_right c (by omega)]
    omega

theorem Decayed.dlRun (h : Decayed q (wp + i) c buf) (hwf : buf.wf = true) (hd : 1 ≤ d) (hdq : d < q)
    (hg : g < 32768) (m : Nat) : Decayed q (wp + (i + m)) (c + m) (dlRun q wp d g i (List.replicate m 0) buf).2 := by
  induction m generalizing i c buf with
  | zero => exact h
  | succ m ih =>
    rw [List.replicate_succ, show i + (m + 1) = i + 1 + m by omega, show c + (m + 1) = c + 1 + m by omega]
    exact ih (h.dlSample hwf hd hdq hg) (dlSample_wf _ _ _ _ _ _ hwf)

/-- After 32768 rounds nothing is left. -/
theorem Decayed.silent (h : Decayed q wp c buf) (hwp : wp < q) (hc : 32768 * q ≤ c) {a : Nat} (ha : a < q) :
    buf.read a = 0 := by
  have hround : 32768 ≤ c / q := (Nat.le_div_iff_mul_le (by omega)).mpr hc
  have hslot : writeIndex q wp ((a + (q - wp)) % q) = a := by
    rw [writeIndex_eq, Nat.add_mod_mod, show wp + (a + (q - wp)) = a + q by omega, Nat.add_mod_right,
      Nat.mod_eq_of_lt ha]
  have hle := h _ (Nat.mod_lt (a + (q - wp)) (by omega))
  have hmono : c / q ≤ (c + (a + (q - wp)) % q) / q := Nat.div_le_div_right (Nat.le_add_right _ _)
  rw [hslot] at hle
  refine BitVec.eq_of_toInt_eq (Int.natAbs_eq_zero.mp ?_)
  omega

theorem outSample_zero_zero (g : Nat) : outSample g 0 0 = 0 :=
  congrArg (fun v => toSample (sat16 (0 + v))) (mulg_zero g)

/-- An empty buffer under zero input stays empty and gives zeros. -/
theorem dlRun_silence (q wp d g i m : Nat) : dlRun q wp d g i (List.replicate m 0) [] = (List.replicate m 0, []) := by
  induction m generalizing i with
  | zero => rfl
  | succ m ih =>
    have hback : backSample g 0 0 = 0 := outSample_zero_zero g
    have hsample : Machine.dlSample q wp d g i 0 [] = (0, []) := by
      rw [Machine.dlSample, Memory.read_nil, outSample_zero_zero, hback]
      rfl
    rw [List.replicate_succ, dlRun_cons, hsample, ih]

end

section

variable {s : State}

theorem wp_dlProcess (xs : List Sample) (s : State) : (dlProcess xs s).2.wp.toNat = (s.wp.toNat + s.cfg.B) % s.cfg.Q :=
  nextWp_toNat s.cfg s.wp

/-- `n` zero blocks are `n B` zero samples, and they keep the invariant. -/
theorem zeroBlocks_decayed (h : s.Inv) (n : Nat) {c : Nat} (hdecayed : Decayed s.cfg.Q s.wp.toNat c s.buf) :
    (zeroBlocks n s).cfg = s.cfg ∧ (zeroBlocks n s).Inv ∧
      Decayed s.cfg.Q (zeroBlocks n s).wp.toNat (c + n * s.cfg.B) (zeroBlocks n s).buf := by
  induction n generalizing s c with
  | zero => simpa [zeroBlocks] using ⟨h, hdecayed⟩
  | succ n ih =>
    have hgain : s.gain.toNat < 32768 := h.gain_le.trans_lt s.cfg.gainMax_lt
    have hblock := hdecayed.dlRun (i := 0) h.buf_wf h.dofs_pos h.dofs_lt hgain s.cfg.B
    rw [Nat.zero_add] at hblock
    have hnext : Decayed s.cfg.Q (dlProcess (zeroBlock s) s).2.wp.toNat (c + s.cfg.B)
        (dlProcess (zeroBlock s) s).2.buf := by
      rw [wp_dlProcess]
      exact hblock.mod
    obtain ⟨hcfg, hinv, hlast⟩ := ih (h.dlProcess (zeroBlock s)) hnext
    refine ⟨hcfg, hinv, ?_⟩
    rw [Nat.succ_mul, show c + (n * s.cfg.B + s.cfg.B) = c + s.cfg.B + n * s.cfg.B by omega]
    exact hlast

/-- Settles O39: every round of the buffer takes at least 1 off every magnitude (`Decayed`), and an empty buffer stays
empty. -/
theorem zeroInputDecaysToSilence : Obligations.ZeroInputDecaysToSilence := by
  intro s n h hn t
  obtain ⟨hcfg, hinv, hdecayed⟩ := zeroBlocks_decayed h n (Decayed.start s.cfg.Q s.wp.toNat s.buf)
  have hempty : t.buf = [] := by
    refine Memory.eq_nil_of_read_eq_zero hinv.buf_wf fun a => ?_
    rcases Nat.lt_or_ge a s.cfg.Q with hlt | hge
    · exact hdecayed.silent (hcfg ▸ hinv.wp_lt) (by omega) hlt
    · exact Memory.read_of_within hinv.buf_within (hcfg ▸ hge)
  have hrun : dlRun t.cfg.Q t.wp.toNat t.dofs.toNat t.gain.toNat 0 (zeroBlock t) t.buf = (zeroBlock t, []) := by
    rw [hempty]
    exact dlRun_silence _ _ _ _ _ _
  refine ⟨fun a => hempty ▸ rfl, fun y hy => ?_, fun a => ?_⟩
  · rw [dlProcess_fst, hrun] at hy
    exact List.eq_of_mem_replicate hy
  · rw [dlProcess_buf, hrun]
    rfl

end

/-! ## Nominal cycles at gain 0 (R167, R210, R211) -/

theorem outSample_of_gain_zero (x tap : Sample) : outSample 0 x tap = x := by
  rw [outSample, zero_mulg, add_zero, sat16_of_mem (sample_bounds x), toSample_toInt]

/-- With gain 0 the output block is the input block (R167). -/
theorem dlRun_fst_of_gain_zero (q wp d i : Nat) (xs : List Sample) (buf : Memory 16) :
    (dlRun q wp d 0 i xs buf).1 = xs := by
  induction xs generalizing i buf with
  | nil => rfl
  | cons x xs ih => rw [dlRun_cons, ih, dlSample, outSample_of_gain_zero]

/-- An accepted TICK (R200). -/
def ticked (s : State) : State := ((mqDrain s).putEvout (queued s)).setSchSt .rendering

/-- A RENDER taken (R203). -/
def rendered (r : List Sample) (s : State) : State := (storeBlock s.cur r s).setSchSt .delaying

/-- An EMIT (R207). -/
def emitted (s : State) : State :=
  (((s.putBlkout ⟨s.cur, samplesOf s s.cur⟩).setOwner s.cur .sink).setCur ((s.cur + 1) % s.cfg.nbuf)).setSchSt .idle

/-- One nominal cycle: the sink releases at once (30_encoding.md R110). -/
def nominalCycle (r : List Sample) (s : State) : State :=
  (emitted (delayed (rendered r (ticked s)))).setOwner s.cur .sched

/-- Between two nominal cycles: no cycle in progress, and every buffer back from the sink (R211). -/
structure Ready (s : State) : Prop where
  inv : s.Inv
  idle : s.schSt = .idle
  owned : ∀ k, k < s.cfg.nbuf → ownerOf s k = .sched

section

variable {s : State} {r : List Sample}

theorem exec_tick_accepted (hidle : s.schSt = .idle) (hown : ownerOf s s.cur = .sched) :
    exec .tick s = .next (ticked s) :=
  if_pos ⟨hidle, hown⟩

theorem exec_render_taken (hr : r.length = s.cfg.B) (hst : s.schSt = .rendering) :
    exec (.render r) s = .next (rendered r s) :=
  (if_neg (not_not.mpr hr)).trans (if_pos hst)

theorem exec_emit (hst : s.schSt = .emitting) : exec .emit s = .next (emitted s) := by
  rw [emitted, ← emod_add_one]
  exact if_pos hst

theorem exec_release_held {k : Nat} (hk : k < s.cfg.nbuf) (hown : ownerOf s k = .sink) :
    exec (.release k) s = .next (s.setOwner k .sched) :=
  if_pos ⟨hk, hown⟩

@[simp] theorem ticked_cur (s : State) : (ticked s).cur = s.cur := rfl
@[simp] theorem rendered_cur (r : List Sample) (s : State) : (rendered r s).cur = s.cur := rfl
@[simp] theorem delayed_cur (s : State) : (delayed s).cur = s.cur := rfl

@[simp] theorem ticked_cfg (s : State) : (ticked s).cfg = s.cfg := rfl
@[simp] theorem rendered_cfg (r : List Sample) (s : State) : (rendered r s).cfg = s.cfg := rfl
@[simp] theorem delayed_cfg (s : State) : (delayed s).cfg = s.cfg := rfl
@[simp] theorem emitted_cfg (s : State) : (emitted s).cfg = s.cfg := rfl

@[simp] theorem ticked_blkout (s : State) : (ticked s).blkout = s.blkout := rfl
@[simp] theorem rendered_blkout (r : List Sample) (s : State) : (rendered r s).blkout = s.blkout := rfl
@[simp] theorem delayed_blkout (s : State) : (delayed s).blkout = s.blkout := rfl
@[simp] theorem emitted_blkout (s : State) : (emitted s).blkout = s.blkout ++ [⟨s.cur, samplesOf s s.cur⟩] := rfl

@[simp] theorem nominalCycle_cfg : (nominalCycle r s).cfg = s.cfg := by
  simp [nominalCycle, emitted, delayed, rendered, ticked]

@[simp] theorem nominalCycle_gain : (nominalCycle r s).gain = s.gain := by
  simp [nominalCycle, emitted, delayed, rendered, ticked]

@[simp] theorem nominalCycle_cur : (nominalCycle r s).cur = (s.cur + 1) % s.cfg.nbuf := by
  simp [nominalCycle, emitted, delayed, rendered, ticked]

/-- The sink gives back the buffer that EMIT handed over (R207, R208). -/
theorem nominalCycle_own : (nominalCycle r s).own = s.own.set s.cur .sched := by
  simp [nominalCycle, emitted, delayed, rendered, ticked]

theorem ownerOf_emitted (h : s.Inv) : ownerOf (emitted s) s.cur = .sink :=
  ownerOf_setOwner_same _ _ (h.own_length ▸ h.cur_lt)

/-- TICK and RENDER leave the delay line as it was. -/
theorem dlProcess_fst_rendered_ticked (xs : List Sample) :
    (dlProcess xs (rendered r (ticked s))).1 = (dlProcess xs s).1 := by
  simp [dlProcess_fst, rendered, ticked]

namespace Ready

theorem ticked_inv (h : Ready s) : (ticked s).Inv :=
  exec_keeps_inv h.inv (exec_tick_accepted h.idle (h.owned _ h.inv.cur_lt))

theorem rendered_inv (h : Ready s) (hr : r.length = s.cfg.B) : (rendered r (ticked s)).Inv :=
  exec_keeps_inv h.ticked_inv (exec_render_taken hr rfl)

theorem delayed_inv (h : Ready s) (hr : r.length = s.cfg.B) : (delayed (rendered r (ticked s))).Inv :=
  exec_keeps_inv (h.rendered_inv hr) (exec_delay rfl)

/-- The five operations of a nominal cycle each complete (R211). -/
theorem runTrace_nominalTrace_cons (h : Ready s) (hr : r.length = s.cfg.B) (rs : List (List Sample)) :
    runTrace (nominalTrace s.cfg s.cur (r :: rs)) s =
      runTrace (nominalTrace s.cfg ((s.cur + 1) % s.cfg.nbuf) rs) (nominalCycle r s) := by
  have htick := exec_tick_accepted h.idle (h.owned _ h.inv.cur_lt)
  have hrender : exec (.render r) (ticked s) = .next (rendered r (ticked s)) := exec_render_taken hr rfl
  have hdelay := exec_delay (s := rendered r (ticked s)) rfl
  have hemit := exec_emit (s := delayed (rendered r (ticked s))) rfl
  have hsink : ownerOf (emitted (delayed (rendered r (ticked s)))) s.cur = .sink := by
    simpa using ownerOf_emitted (h.delayed_inv hr)
  have hrelease := exec_release_held (s := emitted (delayed (rendered r (ticked s))))
    (by simpa using h.inv.cur_lt) hsink
  simp only [nominalTrace, List.cons_append, List.nil_append, runTrace_cons htick, runTrace_cons hrender,
    runTrace_cons hdelay, runTrace_cons hemit, runTrace_cons hrelease, Machine.nominalCycle]

theorem nominalCycle (h : Ready s) (hr : r.length = s.cfg.B) : Ready (nominalCycle r s) where
  inv := (exec_keeps_inv (h.delayed_inv hr) (exec_emit rfl)).setOwner_sched s.cur
  idle := rfl
  owned k hk := by
    have hown : ownerOf (Machine.nominalCycle r s) k = ownerOf (s.setOwner s.cur .sched) k := by
      rw [ownerOf, nominalCycle_own]
      rfl
    rw [hown]
    rw [nominalCycle_cfg] at hk
    by_cases hcur : k = s.cur
    · subst hcur
      exact ownerOf_setOwner_same _ _ (h.inv.own_length ▸ hk)
    · exact (ownerOf_setOwner_ne _ _ hcur).trans (h.owned k hk)

/-- A nominal cycle emits the rendered block as the delay line answers it (R210). -/
theorem blkout_nominalCycle (h : Ready s) (hr : r.length = s.cfg.B) :
    (Machine.nominalCycle r s).blkout = s.blkout ++ [⟨s.cur, (dlProcess r s).1⟩] := by
  have hin : samplesOf (rendered r (ticked s)) s.cur = r := samplesOf_storeBlock h.ticked_inv hr
  have hout : samplesOf (delayed (rendered r (ticked s))) s.cur = (dlProcess r s).1 := by
    have hdelayed := samplesOf_delayed (h.rendered_inv hr)
    rwa [rendered_cur, ticked_cur, hin, dlProcess_fst_rendered_ticked] at hdelayed
  have hblkout : (Machine.nominalCycle r s).blkout =
      s.blkout ++ [⟨s.cur, samplesOf (delayed (rendered r (ticked s))) s.cur⟩] := by
    simp [Machine.nominalCycle]
  rw [hblkout, hout]

end Ready

theorem dlProcess_fst_of_gain_zero (hgain : s.gain = 0) (xs : List Sample) : (dlProcess xs s).1 = xs := by
  rw [dlProcess_fst, hgain]
  exact dlRun_fst_of_gain_zero _ _ _ _ _ _

/-- Settles O47: each cycle emits its block unchanged and leaves the core ready for the next, with the gain as it was. -/
theorem unconfiguredCorePassesBlocksThrough : Obligations.UnconfiguredCorePassesBlocksThrough := by
  intro s rs hinv hidle hown hgain hrs
  have h : Ready s := ⟨hinv, hidle, hown⟩
  clear hinv hidle hown
  induction rs generalizing s with
  | nil => exact ⟨s, rfl, (List.append_nil _).symm⟩
  | cons r rs ih =>
    obtain ⟨hr, hrs⟩ := List.forall_mem_cons.mp hrs
    obtain ⟨t, hrun, hblkout⟩ := ih (s := nominalCycle r s) (by simpa using hgain) (by simpa using hrs)
      (h.nominalCycle hr)
    rw [nominalCycle_cfg, nominalCycle_cur] at hrun
    refine ⟨t, (h.runTrace_nominalTrace_cons hr rs).trans hrun, ?_⟩
    rw [hblkout, h.blkout_nominalCycle hr, dlProcess_fst_of_gain_zero hgain, List.map_append, List.append_assoc]
    rfl

end

end Sys2Proof.Machine

/-! PROOFS for 43_midiqueue.md: any pushes onto an empty queue (R191, R192), and the drain of an accepted tick (R193, R200). -/

namespace Sys2Proof.Machine

section

variable {s t : State} {evs : List EventWord}

/-! ## One push, on a queue with room or a full one (R191) -/

theorem mqPush_mq_wf (ev : EventWord) (hwf : s.mq.wf = true) : (mqPush ev s).mq.wf = true := by
  by_cases hfull : s.mqCnt = s.cfg.midiqCap
  · rw [mqPush_full ev hfull]
    exact Memory.write_wf hwf _ _
  · rw [mqPush_room ev hfull]
    exact Memory.write_wf hwf _ _

/-- A push keeps the newest events that fit. The event may be any word: the queue does not read it. -/
theorem queued_mqPush (ev : EventWord) (hwf : s.mq.wf = true) (hle : s.mqCnt ≤ s.cfg.midiqCap) :
    queued (mqPush ev s) = (queued s ++ [ev]).drop (s.mqCnt + 1 - s.cfg.midiqCap) := by
  obtain hroom | hfull := hle.lt_or_eq
  · rw [queued_mqPush_room ev hwf hroom, Nat.sub_eq_zero_of_le hroom, List.drop_zero]
  · have hwf' : (mqMakeRoom s).mq.wf = true := by
      rw [mqMakeRoom, if_pos hfull]
      exact hwf
    have hone : s.mqCnt + 1 - s.cfg.midiqCap = 1 := by omega
    have hne : 1 ≤ (queued s).length := by
      rw [queued_length, hfull]
      exact s.cfg.midiqCap_pos
    rw [← mqPush_mqMakeRoom ev hle, queued_mqPush_room ev hwf' (mqMakeRoom_cnt_lt hle), queued_mqMakeRoom_full hfull,
      hone, List.drop_append_of_le_length hne, List.drop_one]

/-- A push records the overflow exactly when it finds no room (R191, R240). -/
theorem mqPush_err (ev : EventWord) (hle : s.mqCnt ≤ s.cfg.midiqCap) :
    (mqPush ev s).err = if s.cfg.midiqCap < s.mqCnt + 1 then s.err ||| 0x0004#16 else s.err := by
  obtain hroom | hfull := hle.lt_or_eq
  · rw [mqPush_room ev hroom.ne, if_neg (by omega)]
  · rw [mqPush_full ev hfull, if_pos (by omega), raise_queueOverflow_eq]

/-- A push that finds no room counts once, up to 65535 (R35). -/
theorem mqPush_qovfCnt_toNat (ev : EventWord) (hle : s.mqCnt ≤ s.cfg.midiqCap) :
    (mqPush ev s).qovfCnt.toNat = min (s.qovfCnt.toNat + (s.mqCnt + 1 - s.cfg.midiqCap)) 65535 := by
  obtain hroom | hfull := hle.lt_or_eq
  · rw [mqPush_room ev hroom.ne]
    have hbound := s.qovfCnt.isLt
    show s.qovfCnt.toNat = _
    omega
  · have hone : s.mqCnt + 1 - s.cfg.midiqCap = 1 := by omega
    rw [mqPush_full ev hfull, hone]
    exact satinc_toNat s.qovfCnt

/-! ## Any pushes onto an empty queue (R192) -/

/-- The state with the registers that a push can write taken from another state. -/
def State.withQueueFields (s m : State) : State :=
  { s with mq := m.mq, mqHead := m.mqHead, mqCnt := m.mqCnt, err := m.err, qovfCnt := m.qovfCnt }

/-- R192's account of a state `t` that the pushes of `evs` onto the empty queue of `s` leave. It asks less than the invariant,
which speaks of well-formed event words only: just the canonical form of the storage. -/
structure HoldsNewest (s : State) (evs : List EventWord) (t : State) : Prop where
  mq_wf : t.mq.wf = true
  queued_eq : queued t = evs.drop (evs.length - s.cfg.midiqCap)
  qovfCnt_eq : t.qovfCnt.toNat = min (s.qovfCnt.toNat + (evs.length - s.cfg.midiqCap)) 65535
  err_eq : t.err = if s.cfg.midiqCap < evs.length then s.err ||| 0x0004#16 else s.err
  frame : t = s.withQueueFields t

namespace HoldsNewest

theorem nil (hwf : s.mq.wf = true) (hempty : s.mqCnt = 0) : HoldsNewest s [] s where
  mq_wf := hwf
  queued_eq := by rw [List.drop_nil, ← List.length_eq_zero_iff, queued_length, hempty]
  qovfCnt_eq := by
    have hbound := s.qovfCnt.isLt
    rw [List.length_nil]
    omega
  err_eq := (if_neg (Nat.not_lt_zero _)).symm
  frame := rfl

variable (h : HoldsNewest s evs t)
include h

theorem cfg_eq : t.cfg = s.cfg := by
  rw [h.frame]
  rfl

theorem mqCnt_eq : t.mqCnt = min evs.length s.cfg.midiqCap := by
  rw [← queued_length, h.queued_eq, List.length_drop]
  omega

/-- One push more. -/
theorem push (ev : EventWord) : HoldsNewest s (evs ++ [ev]) (mqPush ev t) := by
  have hcap := h.cfg_eq
  have hcnt := h.mqCnt_eq
  have hle : t.mqCnt ≤ t.cfg.midiqCap := by
    rw [hcap]
    omega
  have hframe : t.withQueueFields (mqPush ev t) = (s.withQueueFields t).withQueueFields (mqPush ev t) :=
    congrArg (State.withQueueFields · (mqPush ev t)) h.frame
  refine ⟨mqPush_mq_wf ev h.mq_wf, ?queued, ?qovfCnt, ?err,
    (mqPush_frame ev t).trans hframe⟩
  case queued =>
    rw [queued_mqPush ev h.mq_wf hle, h.queued_eq, ← List.drop_append_of_le_length (Nat.sub_le _ _), List.drop_drop,
      hcap, hcnt, List.length_append, List.length_singleton]
    congr 1
    omega
  case qovfCnt =>
    rw [mqPush_qovfCnt_toNat ev hle, h.qovfCnt_eq, hcap, hcnt, List.length_append, List.length_singleton]
    omega
  case err =>
    rw [mqPush_err ev hle, h.err_eq, hcap, hcnt, List.length_append, List.length_singleton]
    by_cases hover : s.cfg.midiqCap < evs.length
    · rw [if_pos hover, if_pos (by omega), if_pos (by omega), BitVec.or_assoc, BitVec.or_self]
    · rw [if_neg hover]
      congr 1
      apply propext
      omega

end HoldsNewest

/-- By induction on the pushes, the newest last. -/
theorem holdsNewest_foldl_mqPush (hwf : s.mq.wf = true) (hempty : s.mqCnt = 0) (evs : List EventWord) :
    HoldsNewest s evs (evs.foldl (fun u ev => mqPush ev u) s) := by
  induction evs using List.reverseRecOn with
  | nil => exact .nil hwf hempty
  | append_singleton evs ev ih =>
    rw [List.foldl_append]
    exact ih.push ev

end

/-- Settles O32: `HoldsNewest` holds before the first push and after each one. -/
theorem pushesKeepTheNewestEvents : Obligations.PushesKeepTheNewestEvents := by
  intro s evs h hempty
  obtain ⟨-, hqueued, hqovf, herr, hframe⟩ := holdsNewest_foldl_mqPush h.mq_wf hempty evs
  exact ⟨hqueued, hqovf, herr, hframe⟩

/-! ## The drain of an accepted tick (R193, R200) -/

/-- Settles O33: the record is `queued` of the state before the tick, which MQ.DRAIN empties (`mqDrain_eq`). -/
theorem acceptedTickDrainsTheQueue : Obligations.AcceptedTickDrainsTheQueue := by
  intro s hidle hown
  refine ⟨queued s, ?_, queued_length s, fun j hj => ?_⟩
  · rw [exec_tick_accepted hidle hown, ticked, mqDrain_eq]
    rfl
  · rw [← queued_length] at hj
    rw [List.getElem?_eq_getElem hj, queued_getElem]

end Sys2Proof.Machine

/-! PROOFS for 44_blockscheduler.md: each operation of the tick cycle (R201 to R209), the cycle of `sch.st` and its account of
ticks and blocks (R211 to R213), nominal cycles one after the other, and a step with nothing pending (R287, R289). -/

namespace Sys2Proof.Machine

section

variable {s : State} {r : List Sample} {k : Nat}

/-! ## Operations that are dropped, ignored or refused (R201, R204, R209) -/

theorem raise_underrun_eq (s : State) :
    raise .underrun s = { s with err := s.err ||| 0x0001#16, urunCnt := oneMore s.urunCnt } := by
  rw [← satinc_eq_oneMore]
  rfl

theorem exec_tick_dropped (h : ¬(s.schSt = .idle ∧ ownerOf s s.cur = .sched)) : exec .tick s = .next (raise .underrun s) :=
  if_neg h

theorem exec_render_ignored (hr : r.length = s.cfg.B) (hst : s.schSt ≠ .rendering) : exec (.render r) s = .next s :=
  (if_neg (not_not.mpr hr)).trans (if_neg hst)

theorem exec_render_refused (hr : r.length ≠ s.cfg.B) : exec (.render r) s = .refused (.rejected .blockLength) :=
  if_pos hr

theorem exec_release_ignored (h : ¬(k < s.cfg.nbuf ∧ ownerOf s k = .sink)) : exec (.release k) s = .next s :=
  if_neg h

/-- Settles O34: either cause makes the tick's one test fail, and then it is an underrun. -/
theorem droppedTickOnlyRecordsUnderrun : Obligations.DroppedTickOnlyRecordsUnderrun := by
  intro s h
  have hdropped : ¬(s.schSt = .idle ∧ ownerOf s s.cur = .sched) := by
    rintro ⟨hidle, hsched⟩
    rcases h with hbusy | hsink
    · exact hbusy hidle
    · exact absurd (hsched.symm.trans hsink) nofun
  rw [exec_tick_dropped hdropped, raise_underrun_eq]

/-- Settles O36: the length is tested first, the scheduler's state second. -/
theorem unrequestedRenderIsIgnored : Obligations.UnrequestedRenderIsIgnored :=
  fun _ _ => ⟨exec_render_ignored, exec_render_refused⟩

/-! ## RENDER, EMIT and RELEASE where they act (R203, R207, R208) -/

/-- Settles O35: the block stored over the current buffer reads back as that block (`samplesOf_storeBlock`). -/
theorem renderedBlockFillsTheCurrentBuffer : Obligations.RenderedBlockFillsTheCurrentBuffer := by
  intro s r h hst hr
  have hsamples : samplesOf (rendered r s) s.cur = r := samplesOf_storeBlock h hr
  refine ⟨rendered r s, exec_render_taken hr hst, rfl, hsamples, fun i hi => ?_, fun k hk => blockOf_storeBlock_ne _ _ hk⟩
  rw [← samplesOf_getD (rendered r s) s.cur hi, hsamples]

theorem ownerOf_setOwner (o : Owner) (hk : k < s.own.length) (j : Nat) :
    ownerOf (s.setOwner k o) j = if j = k then o else ownerOf s j := by
  by_cases hj : j = k
  · rw [if_pos hj, hj, ownerOf_setOwner_same s o hk]
  · rw [if_neg hj, ownerOf_setOwner_ne s o hj]

/-- Settles O42: the record is `samplesOf` of the current buffer, and one owner is written. -/
theorem emitHandsTheBlockToTheSink : Obligations.EmitHandsTheBlockToTheSink := by
  intro s h hst
  refine ⟨emitted s, samplesOf s s.cur, exec_emit hst, rfl, samplesOf_length s _, fun i hi => ?_,
    List.length_set.trans h.own_length, fun k _ => ownerOf_setOwner (s := s) _ (h.own_length ▸ h.cur_lt) k⟩
  rw [← samplesOf_length s s.cur] at hi
  rw [List.getElem?_eq_getElem hi, samplesOf_getElem]

/-- Settles O43: the sink's hold on a buffer of the ring is the one test, and one owner is written. -/
theorem releaseGivesBackOnlyWhatTheSinkHolds : Obligations.ReleaseGivesBackOnlyWhatTheSinkHolds := by
  intro s k h
  refine ⟨fun hk hsink => ⟨s.setOwner k .sched, exec_release_held hk hsink, rfl, List.length_set.trans h.own_length,
    fun j _ => ownerOf_setOwner _ (h.own_length ▸ hk) j⟩, fun hnot => exec_release_ignored ?_⟩
  rintro ⟨hk, hsink⟩
  rcases hnot with hout | hsched
  · exact absurd hk (Nat.not_lt.mpr hout)
  · exact absurd (hsched.symm.trans hsink) nofun

/-! ## The cycle of `sch.st` (R211 to R213) -/

/-- Settles O44: five of the effects write `sch.st`, each from the state that enables it. -/
theorem theSchedulerMovesOnlyAlongItsCycle : Obligations.TheSchedulerMovesOnlyAlongItsCycle := by
  intro s t i h
  cases exec_effect h with
  | tickAccepted hidle => exact .inr (.inl ⟨rfl, hidle, rfl⟩)
  | rendered r _ hst => exact .inr (.inr (.inl ⟨⟨r, rfl⟩, hst, rfl⟩))
  | delayed hst => exact .inr (.inr (.inr (.inl ⟨rfl, hst, rfl⟩)))
  | emitted hst => exact .inr (.inr (.inr (.inr (.inl ⟨rfl, hst, rfl⟩))))
  | reset => exact .inr (.inr (.inr (.inr (.inr ⟨rfl, rfl⟩))))
  | _ => exact .inl ⟨by simp, nofun, nofun⟩

theorem cyclesInProgress_eq (s : State) : cyclesInProgress s = min 1 (schNumber s.schSt) := by
  unfold cyclesInProgress
  cases s.schSt <;> rfl

/-- Settles O45: an accepted tick starts a cycle with its record, EMIT ends one with its record, and no other effect puts out
a record or takes `sch.st` into or out of Idle. -/
theorem blocksAndCyclesCountAcceptedTicks : Obligations.BlocksAndCyclesCountAcceptedTicks := by
  intro s t i h hi
  cases exec_effect h with
  | tickAccepted hidle => simp [cyclesInProgress_eq, schNumber, hidle, Nat.add_right_comm]
  | tickDropped => simp [cyclesInProgress_eq, urunAfter, satinc_eq_oneMore]
  | rendered _ _ hst | delayed hst => simp [cyclesInProgress_eq, schNumber, hst]
  | emitted hst => simp [cyclesInProgress_eq, schNumber, hst, Nat.add_assoc]
  | offsetRefused => simp [cyclesInProgress_eq, urunAfter]
  | reset => exact absurd rfl hi
  | _ => simp [cyclesInProgress_eq]

/-! ## Nominal cycles (R211) -/

@[simp] theorem nominalCycle_evout : (nominalCycle r s).evout = s.evout ++ [queued s] := by
  simp [nominalCycle, emitted, delayed, rendered, ticked]

@[simp] theorem nominalCycle_err : (nominalCycle r s).err = s.err := by
  simp [nominalCycle, emitted, delayed, rendered, ticked]

@[simp] theorem nominalCycle_urunCnt : (nominalCycle r s).urunCnt = s.urunCnt := by
  simp [nominalCycle, emitted, delayed, rendered, ticked]

theorem nominalCycle_wp_toNat : (nominalCycle r s).wp.toNat = (s.wp.toNat + s.cfg.B) % s.cfg.Q := by
  simp [nominalCycle, emitted, delayed, rendered, ticked, nextWp_toNat]

/-- The account of `n` nominal cycles from `s` to `t`, with the records that they put out on BLKOUT. -/
structure NominalRun (s : State) (n : Nat) (t : State) (fresh : List BlockRecord) : Prop where
  cfg_eq : t.cfg = s.cfg
  ready : Ready t
  blkout_eq : t.blkout = s.blkout ++ fresh
  fresh_length : fresh.length = n
  whole : ∀ rec ∈ fresh, rec.samples.length = s.cfg.B
  index_eq : ∀ j, j < n → (fresh[j]?).map BlockRecord.index = some ((s.cur + j) % s.cfg.nbuf)
  evout_length : t.evout.length = s.evout.length + n
  err_eq : t.err = s.err
  urunCnt_eq : t.urunCnt = s.urunCnt
  wp_eq : t.wp.toNat = (s.wp.toNat + n * s.cfg.B) % s.cfg.Q

namespace NominalRun

theorem zero (h : Ready s) : NominalRun s 0 s [] where
  cfg_eq := rfl
  ready := h
  blkout_eq := (List.append_nil _).symm
  fresh_length := rfl
  whole := nofun
  index_eq := nofun
  evout_length := rfl
  err_eq := rfl
  urunCnt_eq := rfl
  wp_eq := by rw [Nat.zero_mul, Nat.add_zero, Nat.mod_eq_of_lt h.inv.wp_lt]

/-- One cycle before the others. -/
theorem succ {n : Nat} {t : State} {fresh : List BlockRecord} (h : Ready s) (hr : r.length = s.cfg.B)
    (hrun : NominalRun (nominalCycle r s) n t fresh) : NominalRun s (n + 1) t (⟨s.cur, (dlProcess r s).1⟩ :: fresh) where
  cfg_eq := hrun.cfg_eq.trans nominalCycle_cfg
  ready := hrun.ready
  blkout_eq := by rw [hrun.blkout_eq, h.blkout_nominalCycle hr, ← List.append_cons]
  fresh_length := by rw [List.length_cons, hrun.fresh_length]
  whole := List.forall_mem_cons.mpr ⟨by simpa [dlProcess_fst] using hr, by simpa using hrun.whole⟩
  index_eq
    | 0, _ => congrArg some (Nat.mod_eq_of_lt h.inv.cur_lt).symm
    | j + 1, hj => by
      have hindex := hrun.index_eq j (Nat.lt_of_succ_lt_succ hj)
      rw [nominalCycle_cur, nominalCycle_cfg, Nat.mod_add_mod, Nat.add_right_comm] at hindex
      exact hindex
  evout_length := by
    rw [hrun.evout_length, nominalCycle_evout, List.length_append, List.length_singleton]
    omega
  err_eq := hrun.err_eq.trans nominalCycle_err
  urunCnt_eq := hrun.urunCnt_eq.trans nominalCycle_urunCnt
  wp_eq := by
    rw [hrun.wp_eq, nominalCycle_wp_toNat, nominalCycle_cfg, Nat.mod_add_mod, Nat.succ_mul, Nat.add_assoc,
      Nat.add_comm s.cfg.B]

end NominalRun

/-- By induction on the blocks: the first cycle leaves the core ready for the others. -/
theorem Ready.runTrace_nominalTrace (h : Ready s) {rs : List (List Sample)} (hrs : ∀ r ∈ rs, r.length = s.cfg.B) :
    ∃ t fresh, runTrace (nominalTrace s.cfg s.cur rs) s = .next t ∧ NominalRun s rs.length t fresh := by
  induction rs generalizing s with
  | nil => exact ⟨s, [], rfl, .zero h⟩
  | cons r rs ih =>
    obtain ⟨hr, hrs⟩ := List.forall_mem_cons.mp hrs
    obtain ⟨t, fresh, hexec, hrun⟩ := ih (h.nominalCycle hr) (by simpa using hrs)
    rw [nominalCycle_cfg, nominalCycle_cur] at hexec
    exact ⟨t, _, (h.runTrace_nominalTrace_cons hr rs).trans hexec, hrun.succ h hr⟩

/-- Settles O46: `NominalRun` holds of any number of nominal cycles. -/
theorem nominalTicksEmitOneBlockEach : Obligations.NominalTicksEmitOneBlockEach := by
  intro s rs hinv hidle hown hrs
  obtain ⟨t, fresh, hexec, hrun⟩ := Ready.runTrace_nominalTrace ⟨hinv, hidle, hown⟩ hrs
  exact ⟨t, fresh, hexec, hrun.ready.idle, hrun.blkout_eq, hrun.fresh_length, hrun.whole, hrun.index_eq, hrun.evout_length,
    hrun.err_eq, hrun.urunCnt_eq, hrun.wp_eq, hrun.cfg_eq ▸ hrun.ready.owned⟩

/-! ## A step with nothing pending (R205, R207, R287, R289) -/

/-- With nothing pending the word is `sch.st`, and the operation it encodes runs (log 4). -/
theorem step_of_internal {i : Instr} (hin : s.inbox = []) (hdec : decode s.cfg (.step s.schSt.code) = .ok i) :
    step s = exec i s := by
  rw [step_of_decode_ok (by rwa [fetchWord_none hin]), afterFetch_none hin]

/-- With nothing pending and no internal step enabled the core rests (R289). -/
theorem step_of_rest {why : Reject} (hin : s.inbox = []) (hdec : decode s.cfg (.step s.schSt.code) = .error why) :
    step s = .next s := by
  rw [step_of_decode_error (by rwa [fetchWord_none hin]), onReject, hin]

/-- Settles O8: the value of `sch.st` encodes DELAY in Delaying, EMIT in Emitting, and no operation otherwise (R105). -/
theorem stepWithNothingPending : Obligations.StepWithNothingPending := by
  intro s hin
  refine ⟨fun hst => step_of_internal hin (by rw [hst]; rfl), fun hst => step_of_internal hin (by rw [hst]; rfl), ?_⟩
  rintro (hst | hst)
  · exact step_of_rest hin (why := .noSuchStep) (by rw [hst]; rfl)
  · exact step_of_rest hin (why := .noSuchStep) (by rw [hst]; rfl)

end

end Sys2Proof.Machine

/-! PROOFS for 45_hostport.md: the ten register views (R230 to R232), the reserved commands (R234), the host's reach (R233) and
RESET (R236). -/

namespace Sys2Proof.Machine

section

variable {s : State}

/-! ## The register views (R230 to R232) -/

theorem exec_rdStat_of_view {r data : U16} (h : view s r = some data) :
    exec (.rdStat r) s = .next (respond false data s) := by
  simp only [exec, execRdStat, h]

theorem exec_rdStat_of_no_view {r : U16} (h : view s r = none) : exec (.rdStat r) s = .next (respond true 0 s) := by
  simp only [exec, execRdStat, h]

/-- The views end at number 9 (R232). -/
theorem view_of_ten_le {r : U16} (h : 10 ≤ r.toNat) : view s r = none := by
  obtain ⟨k, hk⟩ := Nat.exists_eq_add_of_le' h
  rw [view, hk]
  rfl

/-- View 7 with the wrap written as an addition of the capacity, which the offset stays below (I-b, R24). -/
theorem readPointer_eq (h : s.Inv) : readPointer s = (s.wp.toNat + (s.cfg.Q - s.dofs.toNat)) % s.cfg.Q := by
  have hdofs := h.dofs_lt
  rw [readPointer, ← emod_add_modulus, ← emod_natCast]
  congr 1
  omega

/-- View 8: each state register's code is its number, two bits wide (R26, R33). -/
theorem fsmView_eq (s : State) : fsmView s = BitVec.ofNat 16 (4 * mdNumber s.mdSt + schNumber s.schSt) := by
  unfold fsmView
  cases s.mdSt <;> cases s.schSt <;> rfl

theorem queueCountView_of_lt (h : s.mqCnt < 65536) : queueCountView s = BitVec.ofNat 16 s.mqCnt := if_pos h

/-- Settles O51: a number with a view is answered with it, every other one with an error, and both are one response and no
other write. -/
theorem rdStatAnswersTheViews : Obligations.RdStatAnswersTheViews := by
  intro s h
  have hcount : exec (.rdStat 9) s = .next (respond false (queueCountView s) s) := exec_rdStat_of_view rfl
  refine ⟨?_, fun hfits => queueCountView_of_lt hfits ▸ hcount, ⟨_, hcount⟩,
    fun r hr => exec_rdStat_of_no_view (view_of_ten_le hr)⟩
  rw [← readPointer_eq h, ← fsmView_eq]
  refine fun p hp => exec_rdStat_of_view ?_
  revert p
  exact List.forall_iff_forall_mem.mp ⟨rfl, rfl, rfl, rfl, rfl, rfl, rfl, rfl, rfl⟩

/-! ## The host's reach (R233, R234) -/

theorem answerReserved_eq (s : State) : answerReserved s = { s with resp := s.resp ++ [0x10000#17] } := rfl

/-- Settles O54: the effects of the host commands, with what each writes besides its response. -/
theorem hostCommandsChangeOnlyOffsetGainAndOneFlag : Obligations.HostCommandsChangeOnlyOffsetGainAndOneFlag := by
  intro s t i hcommand h
  cases exec_effect h with
  | offsetRefused n hn => exact ⟨rfl, absurd rfl, absurd rfl, fun _ => ⟨rfl, n, rfl, hn⟩⟩
  | offsetHeld n => exact ⟨rfl, fun _ => ⟨n, rfl⟩, absurd rfl, absurd rfl⟩
  | gainHeld g => exact ⟨rfl, absurd rfl, fun _ => ⟨g, rfl⟩, absurd rfl⟩
  | view | noView | reserved00 | reserved04 | reserved08 | reserved10 | reserved20 | reserved40 | reserved80 =>
    exact ⟨rfl, absurd rfl, absurd rfl, absurd rfl⟩
  | _ => cases hcommand

/-- Settles O52: the seven reserved ranges share one answer. -/
theorem reservedCommandsAnswerAnError : Obligations.ReservedCommandsAnswerAnError := by
  intro s arg o2 o3 o4 o5 o6 o7
  rw [← answerReserved_eq]
  exact List.forall_iff_forall_mem.mp ⟨rfl, rfl, rfl, rfl, rfl, rfl, rfl⟩

/-! ## RESET (R236) -/

theorem ownerOf_resetState {k : Nat} (hk : k < s.cfg.nbuf) : ownerOf (resetState s) k = .sched :=
  List.getD_replicate _ hk

/-- Settles O55: RESET is `resetState`, whose registers and buffers are read off `State.resetOf`. -/
theorem resetRestoresTheTableInAnyState : Obligations.ResetRestoresTheTableInAnyState :=
  fun s => ⟨resetState s, rfl, rfl, Memory.read_nil, List.length_replicate, List.length_replicate,
    fun _ hk => ownerOf_resetState hk⟩

end

end Sys2Proof.Machine

/-! PROOFS for 60_exceptions.md: what each condition records (R240), that none stops the core (R245, R246), and the release
that coincides with a tick (R251 case c). -/

namespace Sys2Proof.Machine

/-! ## What `raise` records (R240) -/

/-- Settles O18: the flag of a condition is the mask of its code, and its counter goes up by `satinc`. -/
theorem raiseRecordsExactlyItsCondition : Obligations.RaiseRecordsExactlyItsCondition :=
  fun s => ⟨raise_underrun_eq s, raise_framingError_eq s, raise_queueOverflow_eq s, rfl⟩

/-! ## Nothing stops the core (R245, R246) -/

theorem exec_command_next {i : Instr} (hcommand : commandOps i = true) (s : State) : ∃ t, exec i s = .next t := by
  obtain ⟨err, data, u, hnext, -⟩ := exec_command_responds hcommand s
  exact ⟨respond err data u, hnext⟩

/-- Settles O16: bytes and commands always answer (`exec_byte_next`, `exec_command_next`), TICK, RENDER and RELEASE do on
both sides of their test, and each internal step does where it is enabled. -/
theorem nothingStopsTheCore : Obligations.NothingStopsTheCore := by
  intro s i hwf hdelay hemit
  cases i with
  | mdData | mdNoteOff | mdNoteOn | mdPolyAt | mdCc | mdProg | mdChanAt | mdPBend | mdSys => exact exec_byte_next rfl s
  | setOfs | setGain | rdStat | cmdReserved00 | cmdReserved04 | cmdReserved08 | cmdReserved10 | cmdReserved20
  | cmdReserved40 | cmdReserved80 => exact exec_command_next rfl s
  | tick =>
    by_cases haccepted : s.schSt = .idle ∧ ownerOf s s.cur = .sched
    · exact ⟨_, exec_tick_accepted haccepted.1 haccepted.2⟩
    · exact ⟨_, exec_tick_dropped haccepted⟩
  | render r =>
    have hlen : r.length = s.cfg.B := of_decide_eq_true hwf
    by_cases hst : s.schSt = .rendering
    · exact ⟨_, exec_render_taken hlen hst⟩
    · exact ⟨_, exec_render_ignored hlen hst⟩
  | release k =>
    by_cases hheld : k < s.cfg.nbuf ∧ ownerOf s k = .sink
    · exact ⟨_, exec_release_held hheld.1 hheld.2⟩
    · exact ⟨_, exec_release_ignored hheld⟩
  | reset => exact ⟨resetState s, rfl⟩
  | delay => exact ⟨_, exec_delay (hdelay rfl)⟩
  | emit => exact ⟨_, exec_emit (hemit rfl)⟩

/-! ## A release and a tick together (R251 case c) -/

/-- Settles O48: released first, the buffer passes the tick's test (R200). Ticked first, it fails that test (R201), and the
release finds it still with the sink (R208). -/
theorem releaseBeforeOrAfterTheTickDecidesIt : Obligations.ReleaseBeforeOrAfterTheTickDecidesIt := by
  intro s h hidle hsink
  have hfreed : ownerOf (s.setOwner s.cur .sched) s.cur = .sched :=
    ownerOf_setOwner_same s _ (h.own_length ▸ h.cur_lt)
  constructor
  · have hrelease : exec (.release s.cur) s = .next (s.setOwner s.cur .sched) := exec_release_held h.cur_lt hsink
    have htick : exec .tick (s.setOwner s.cur .sched) = .next (ticked (s.setOwner s.cur .sched)) :=
      exec_tick_accepted hidle hfreed
    exact ⟨_, (runTrace_cons hrelease).trans (runTrace_cons htick), rfl, rfl, rfl, hfreed⟩
  · have htick : exec .tick s = .next (raise .underrun s) := exec_tick_dropped (by simp [hsink])
    have hrelease : exec (.release s.cur) (raise .underrun s) = .next ((raise .underrun s).setOwner s.cur .sched) :=
      exec_release_held h.cur_lt hsink
    exact ⟨_, (runTrace_cons htick).trans (runTrace_cons hrelease), hidle, satinc_eq_oneMore _, rfl, rfl, hfreed⟩

end Sys2Proof.Machine
